-- ==== Sys2Proof/Word.lean ====
section
/-! DEFINITION. The word types of the codec (00_scope.md R9, R11) and their plainest arithmetic. -/

namespace Sys2Proof

/-- One byte of a frame, and every 8-bit register or input. -/
abbrev Byte := BitVec 8

/-- An unsigned 4-bit value (20_memory.md R45). -/
abbrev Nibble := BitVec 4

/-- A word written to the command port (30_encoding.md R69). -/
abbrev CommandWord := BitVec 16

/-- A frame viewed as one little-endian 64-bit value (20_memory.md R44). -/
abbrev FrameWord := BitVec 64

/-- A waveform duration in microseconds (00_scope.md R9, 92 D14). -/
abbrev Duration := BitVec 32

end Sys2Proof
end

