-- ==== Sys2Proof/Config.lean ====
section
/-! DEFINITION. The parameters an instance of the codec fixes before reset (00_scope.md R6 to R10), and the free
values the spec leaves to a draw. The values the spec gives the parameters stand in Machine/Params.lean. -/

namespace Sys2Proof

/-- Which of the two historical constant sets carries a 1 bit (42_serializer.md R97, 92 D6). -/
inductive SpaceVariant where
  /-- Variant A, the default: a 1 bit has the long space. -/
  | a
  /-- Variant B: a 1 bit has the short space. -/
  | b
  deriving DecidableEq, Repr

/-- What decoding a BCD byte with a nibble above 9 yields (40_state_codec.md R80, 92 D13). -/
inductive BcdPolicy where
  /-- The default: any byte. -/
  | draw
  /-- The source's expression, ten times the high nibble plus the low one. -/
  | formula
  deriving DecidableEq, Repr

/-- The parameters of one instance. They are configuration: no command writes them (10_state.md R39). -/
structure Config where
  /-- `CARRIER_HZ` (R6). -/
  carrierHz : Nat
  /-- `HDR1_MARK` (R6). -/
  hdr1Mark : Duration
  /-- `HDR1_SPACE` (R6). -/
  hdr1Space : Duration
  /-- `HDR2_MARK` (R6). -/
  hdr2Mark : Duration
  /-- `HDR2_SPACE` (R6). -/
  hdr2Space : Duration
  /-- `BIT_MARK` (R6). -/
  bitMark : Duration
  /-- The longer of the two data spaces (R6: 910). -/
  longSpace : Duration
  /-- The shorter of the two data spaces (R6: 350). -/
  shortSpace : Duration
  /-- `SPACE_VARIANT` (R97, D6). -/
  spaceVariant : SpaceVariant
  /-- `GAP_MARK` (R6: the default is `BIT_MARK`'s value; R108). -/
  gapMark : Duration
  /-- `GAP_SPACE` (R6). -/
  gapSpace : Duration
  /-- `DECOY_COUNT` (R6). -/
  decoyCount : Nat
  /-- `DECOY_MARK`, OPEN (R6, D8). -/
  decoyMark : Duration
  /-- `DECOY_SPACE`, OPEN (R6, D8). -/
  decoySpace : Duration
  /-- `TOL_PCT`, a percentage (R7, D9). -/
  tolPct : Nat
  /-- `TOGGLE_BIT` (R8, D10). -/
  toggleBit : Byte
  /-- `CEIL_LED_MASK`, OPEN (R8, D11). -/
  ceilLedMask : Byte
  /-- `WALL_LED_MASK`, OPEN (R8, D11). -/
  wallLedMask : Byte
  /-- `FAN_AUTO` (R8, D12). -/
  fanAuto : Nibble
  /-- `FAN_LOW` (R8, D12). -/
  fanLow : Nibble
  /-- `FAN_HIGH` (R8, D12). -/
  fanHigh : Nibble
  /-- `FAN_QUIET` (R8, D12). -/
  fanQuiet : Nibble
  /-- `FAN_STRONG` (R8, D12). -/
  fanStrong : Nibble
  /-- `BCD_MALFORMED` (R8, D13). -/
  bcdMalformed : BcdPolicy
  deriving DecidableEq, Repr

/-- Free value: which of the five non-Off modes SAVED_MODE holds after the n-th draw (10_state.md R19). -/
opaque Config.drawSavedMode : Nat → Fin 5

/-- Free value: the byte a malformed BCD byte decodes to under the policy `draw` (40_state_codec.md R80). -/
opaque Config.drawByte : Nat → BitVec 8

/-- Free value: what each byte of the scratch buffer SF holds between commands, by the draw's number and the byte's
index (10_state.md R36). -/
opaque Config.drawSf : Nat → Nat → BitVec 8

/-- Free value: what each byte of the scratch buffer CF holds between commands, by the draw's number and the byte's
index (10_state.md R36). -/
opaque Config.drawCf : Nat → Nat → BitVec 8

/-- Free value: CLK_VALID when nothing fixes the clock inputs (10_state.md R33). -/
opaque Config.drawClkValid : Nat → Bool

/-- Free value: CLK_HOUR when nothing fixes the clock inputs (10_state.md R33). -/
opaque Config.drawClkHour : Nat → BitVec 8

/-- Free value: CLK_MIN when nothing fixes the clock inputs (10_state.md R33). -/
opaque Config.drawClkMin : Nat → BitVec 8

/-- Free value behind the OPEN parameter DECOY_MARK (00_scope.md R6). -/
opaque Config.openDecoyMark : BitVec 32

/-- Free value behind the OPEN parameter DECOY_SPACE (00_scope.md R6). -/
opaque Config.openDecoySpace : BitVec 32

/-- Free value behind the OPEN parameter CEIL_LED_MASK: its bit number (00_scope.md R8). -/
opaque Config.openCeilBit : Fin 8

/-- Free value behind the OPEN parameter WALL_LED_MASK: how far above CEIL_LED_MASK's bit, less one, its bit
stands, modulo 8, so that the two are distinct and every ordered pair of distinct bits is possible (00_scope.md R8). -/
opaque Config.openWallStep : Fin 7

end Sys2Proof
end

