-- ==== Sys2Proof/Machine/Params.lean ====
section
/-! DEFINITION. The values and the constraints the spec gives the parameters (00_scope.md R6, R7, R8), and the tolerance
window of a nominal duration (43_receive.md R109), in which one of the constraints is stated. -/

namespace Sys2Proof.Machine

/-- `SF_HEADER` (R8). -/
def sfHeader : Byte := 0x16#8

/-- `SF_BYTE4` (R8). -/
def sfByte4 : Byte := 0x13#8

/-- `SF_BYTE5` (R8). -/
def sfByte5 : Byte := 0x04#8

/-- `CONST_BIT` (R8). -/
def constBit : Byte := 0x04#8

/-- `SWING_BIT` (R8). -/
def swingBit : Byte := 0x01#8

/-- `CF_HEADER` (R8). -/
def cfHeader : Byte := 0xA1#8

/-- `FAN_MEDIUM`, the one fan code the source fixes (R8). -/
def fanMedium : Nibble := 0x4#4

/-- `TEMP_MIN` (R8). -/
def tempMin : Nat := 16

/-- `TEMP_MAX` (R8). -/
def tempMax : Nat := 30

/-- `ONE_SPACE`: the space of a 1 bit under the instance's variant (R6, R97). -/
def oneSpace (c : Config) : Duration :=
  match c.spaceVariant with
  | .a => c.longSpace
  | .b => c.shortSpace

/-- `ZERO_SPACE`: the space of a 0 bit under the instance's variant (R6, R97). -/
def zeroSpace (c : Config) : Duration :=
  match c.spaceVariant with
  | .a => c.shortSpace
  | .b => c.longSpace

/-- `lower(L)`, truncating (R109). -/
def windowLower (c : Config) (nominal : Duration) : Nat := (100 - c.tolPct) * nominal.toNat / 100

/-- `upper(L)`, truncating (R109). -/
def windowUpper (c : Config) (nominal : Duration) : Nat := (100 + c.tolPct) * nominal.toNat / 100

/-- `in_window(v, L)`, both bounds inclusive (R109). -/
def inWindow (c : Config) (v nominal : Duration) : Bool :=
  decide (windowLower c nominal ≤ v.toNat) && decide (v.toNat ≤ windowUpper c nominal)

/-- The two data-space windows do not meet (R7). -/
def spacesDisjoint (c : Config) : Bool :=
  decide (windowUpper c c.shortSpace < windowLower c c.longSpace)
    || decide (windowUpper c c.longSpace < windowLower c c.shortSpace)

/-- A decoy item matches the header-1 window (R7, R101). -/
def decoyMatchesHeader (c : Config) : Bool :=
  inWindow c c.decoyMark c.hdr1Mark && inWindow c c.decoySpace c.hdr1Space

/-- A byte with exactly one bit set. -/
def singleBit (b : Byte) : Bool := (List.range 8).any fun k => b == 1#8 <<< k

/-- The six fan codes, in the order of R64. -/
def fanCodes (c : Config) : List Nibble :=
  [c.fanAuto, c.fanLow, fanMedium, c.fanHigh, c.fanQuiet, c.fanStrong]

/-- The constraints on the parameters (R7, R8): TOL_PCT in [0, 99], the data windows disjoint, no decoy in the header-1
window, TOGGLE_BIT one of two, the fan codes pairwise distinct, the LED masks two distinct single bits. -/
def admissible (c : Config) : Bool :=
  decide (c.tolPct ≤ 99) && spacesDisjoint c && !decoyMatchesHeader c
    && (c.toggleBit == 0x02#8 || c.toggleBit == 0x08#8)
    && decide (fanCodes c).Nodup
    && (singleBit c.ceilLedMask && singleBit c.wallLedMask && c.ceilLedMask != c.wallLedMask)

/-- The parameter set with every default of R6, R7 and R8, the OPEN ones given as arguments. -/
def configWith (decoyMark decoySpace : Duration) (ceilLedMask wallLedMask : Byte) : Config where
  carrierHz := 38000
  hdr1Mark := 9850#32
  hdr1Space := 9770#32
  hdr2Mark := 4650#32
  hdr2Space := 2470#32
  bitMark := 390#32
  longSpace := 910#32
  shortSpace := 350#32
  spaceVariant := .a
  gapMark := 390#32
  gapSpace := 20270#32
  decoyCount := 2
  decoyMark := decoyMark
  decoySpace := decoySpace
  tolPct := 25
  toggleBit := 0x08#8
  ceilLedMask := ceilLedMask
  wallLedMask := wallLedMask
  fanAuto := 0x1#4
  fanLow := 0x8#4
  fanHigh := 0x2#4
  fanQuiet := 0x9#4
  fanStrong := 0x3#4
  bcdMalformed := .draw

/-- The single-bit mask of an OPEN LED bit. -/
def ledMask (bit : Nat) : Byte := 1#8 <<< bit

/-- The OPEN decoy durations as an instance may hold them: any pair of which R7's constraint holds. Where the free pair
would match header-1, it stands for the shortest admissible pair, (0, 0) (notes/assumptions/9.md). -/
def admitDecoy (mark space : Duration) : Duration × Duration :=
  if decoyMatchesHeader (configWith mark space 0#8 0#8) then (0#32, 0#32) else (mark, space)

/-- The parameter set of the instance that `State.reset` describes: the spec's defaults, the OPEN parameters free
within their constraints. -/
def defaultConfig : Config :=
  let decoy := admitDecoy Config.openDecoyMark Config.openDecoySpace
  let ceil := Config.openCeilBit.val
  let wall := (ceil + 1 + Config.openWallStep.val) % 8
  configWith decoy.1 decoy.2 (ledMask ceil) (ledMask wall)

end Sys2Proof.Machine
end

