-- ==== Sys2Proof/Machine/State.lean ====
section
/-! DEFINITION. The state of the codec as plain data (10_state.md R16), the state after reset (70_reset_and_hazards.md
R148), and the reasons a step can stop. -/

namespace Sys2Proof.Machine

/-- Mode values (10_state.md R17); their 3-bit encoding stands in Machine/Operands.lean. -/
inductive Mode where
  | off | cool | dry | heat | heatCool | fanOnly
  deriving DecidableEq, Repr, Inhabited

/-- Fan speeds (10_state.md R21); their 3-bit encoding stands in Machine/Operands.lean. -/
inductive FanSpeed where
  | auto | low | medium | high | quiet
  deriving DecidableEq, Repr, Inhabited

/-- Swing modes (10_state.md R23). -/
inductive Swing where
  | off | vertical
  deriving DecidableEq, Repr, Inhabited

/-- A waveform item: carrier on for `mark`, then off for `space` (30_encoding.md R65). -/
structure Item where
  mark : Duration
  space : Duration
  deriving DecidableEq, Repr

/-- The 8 bytes of a frame, byte 0 first (30_encoding.md R56, R61). -/
structure Frame where
  b0 : Byte
  b1 : Byte
  b2 : Byte
  b3 : Byte
  b4 : Byte
  b5 : Byte
  b6 : Byte
  b7 : Byte
  deriving DecidableEq, Repr

/-- An event of the log EVT (10_state.md R35). -/
inductive Event where
  /-- A waveform handed to the transmitter service. -/
  | tx (carrierHz : Nat) (items : List Item)
  /-- The state-change notifier was invoked. -/
  | notify
  /-- The checksum warning was emitted. -/
  | warnChecksum
  deriving DecidableEq, Repr

/-- The field LAST_RX of STATUS (10_state.md R31). -/
inductive LastRx where
  /-- No RECEIVE since reset. -/
  | noReceive
  | ok
  | noMatch
  | ckFail
  deriving DecidableEq, Repr

/-- The field REASON of STATUS: the first fault or refusal since reset (60_exceptions.md R131). Codes 4 to 7 are never
written, so they have no constructor. -/
inductive Reason where
  | noReason
  /-- Fault F_UNINIT (R132). -/
  | uninit
  /-- Refusal REF_ENCODING (R133). -/
  | encoding
  /-- Refusal REF_BCD_RANGE (R133). -/
  | bcdRange
  deriving DecidableEq, Repr

/-- The register STATUS by its fields (10_state.md R31). RX_OK is a copy of LAST_RX = OK and has no home of its own. -/
structure Status where
  lastRx : LastRx
  fault : Bool
  refused : Bool
  reason : Reason
  deriving DecidableEq, Repr

/-- The clock inputs as a TRANSMIT finds them (10_state.md R33): fixed by the clock agent, or left to a draw. -/
inductive ClockPort where
  /-- Nothing fixes the inputs: every TRANSMIT samples a fresh draw. -/
  | undriven
  /-- CLK_VALID, CLK_HOUR, CLK_MIN as driven. -/
  | driven (valid : Bool) (hour minute : Byte)
  deriving DecidableEq, Repr

/-- What an agent outside the block does next (60_exceptions.md R144). -/
inductive Input where
  /-- The host or the receiver writes a word to CMD (10_state.md R30). -/
  | cmd (word : CommandWord)
  /-- The receiver writes a captured waveform into RXW (10_state.md R34). -/
  | rxw (items : List Item)
  /-- The clock agent drives or releases the clock inputs (10_state.md R33). -/
  | clock (port : ClockPort)
  /-- The receiver writes the nominal waveform of a 64-bit frame into RXW and issues RECEIVE (44_commands.md R128,
  ON_WAVEFORM; notes/assumptions/16.md). -/
  | frame (word : FrameWord)
  /-- The platform asserts reset (70_reset_and_hazards.md R149). -/
  | reset
  deriving DecidableEq, Repr

/-- The state of the block (10_state.md R16), the clock inputs beside it, and three fields of the model's own. -/
structure State where
  /-- MODE (R18). -/
  mode : Mode
  /-- SAVED_MODE (R19). -/
  savedMode : Mode
  /-- FAN (R22). -/
  fan : FanSpeed
  /-- SWING (R23). -/
  swing : Swing
  /-- TEMP (R24). -/
  temp : Byte
  /-- POWER_ON (R25). -/
  powerOn : Bool
  /-- WR_FAN (R26). -/
  wrFan : Bool
  /-- WR_SWING (R26). -/
  wrSwing : Bool
  /-- WR_TEMP (R26). -/
  wrTemp : Bool
  /-- STATUS (R31). -/
  status : Status
  /-- EVT, oldest event first (R35). -/
  evt : List Event
  /-- RXW (R34). -/
  rxw : List Item
  /-- CLK_VALID, CLK_HOUR, CLK_MIN: inputs, not registers of the block (R33). -/
  clk : ClockPort
  /-- SF, unspecified between commands (R36). -/
  sf : Frame
  /-- CF, unspecified between commands (R36). -/
  cf : Frame
  /-- The instance's parameters, which nothing writes (R39; notes/assumptions/1.md). The model's own field. -/
  cfg : Config
  /-- What the agents outside the block do next, in this order (notes/assumptions/2.md). The model's own field. -/
  inputs : List Input
  /-- How many draws were taken (notes/assumptions/7.md). The model's own field. -/
  draws : Nat
  deriving DecidableEq, Repr

/-- Why a step stops with a fault. No constructor: the spec gives every condition an effect, a model-level fault
included (60_exceptions.md R129, R132), so no step of this model ends in a fault. -/
inductive Fault where
  deriving DecidableEq, Repr

/-- Why a step stops with a refusal. -/
inductive Refusal where
  /-- Raised by `exec` alone, for an instruction that has no meaning yet; safe. No arm raises it now. The spec's own
  refusals (R133) are recorded in STATUS by a next state and are not this. -/
  | notModelled (mnemonic : String)
  deriving DecidableEq, Repr

/-- The five non-Off modes, numbered for the reset draw of SAVED_MODE (R19). -/
def modeOfDraw (d : Fin 5) : Mode :=
  match d with
  | 0 => .cool
  | 1 => .dry
  | 2 => .heat
  | 3 => .heatCool
  | 4 => .fanOnly

/-- A scratch buffer holding a draw, byte by byte (R36). -/
def frameOfDraw (byte : Nat → Byte) : Frame where
  b0 := byte 0
  b1 := byte 1
  b2 := byte 2
  b3 := byte 3
  b4 := byte 4
  b5 := byte 5
  b6 := byte 6
  b7 := byte 7

/-- The state reset leaves (R148), its draws numbered `draws`, with the given parameters, clock inputs and pending
inputs, none of which reset touches (R33, R148). FAN, SWING and TEMP are unwritten; the values they hide are the model's
(notes/assumptions/5.md). -/
def State.afterReset (cfg : Config) (clk : ClockPort) (inputs : List Input) (draws : Nat) : State where
  mode := .off
  savedMode := modeOfDraw (Config.drawSavedMode draws)
  fan := .auto
  swing := .off
  temp := 0#8
  powerOn := false
  wrFan := false
  wrSwing := false
  wrTemp := false
  status := { lastRx := .noReceive, fault := false, refused := false, reason := .noReason }
  evt := []
  rxw := []
  clk := clk
  sf := frameOfDraw (Config.drawSf draws)
  cf := frameOfDraw (Config.drawCf draws)
  cfg := cfg
  inputs := inputs
  draws := draws + 1

/-- The machine right after reset at the start of its lifetime: nothing pending, the clock inputs left to a draw
(R148, R149, R150). -/
def State.reset : State := State.afterReset defaultConfig .undriven [] 0

end Sys2Proof.Machine
end

