-- ==== Sys2Proof/Machine/Operands.lean ====
section
/-! DEFINITION. The register encodings and the operand forms of the commands (10_state.md R17, R21, R23, R33;
30_encoding.md R70). -/

namespace Sys2Proof.Machine

/-- The 3-bit encoding of a mode (R17). -/
def modeBits (m : Mode) : BitVec 3 :=
  match m with
  | .off => 0#3
  | .cool => 1#3
  | .dry => 2#3
  | .heat => 3#3
  | .heatCool => 4#3
  | .fanOnly => 5#3

/-- The mode an operand names, none for the illegal values 6 and 7 (R17, R70). -/
def modeOfBits (b : BitVec 3) : Option Mode :=
  if b = 0#3 then some .off
  else if b = 1#3 then some .cool
  else if b = 2#3 then some .dry
  else if b = 3#3 then some .heat
  else if b = 4#3 then some .heatCool
  else if b = 5#3 then some .fanOnly
  else none

/-- The 3-bit encoding of a fan speed (R21). -/
def fanBits (f : FanSpeed) : BitVec 3 :=
  match f with
  | .auto => 0#3
  | .low => 1#3
  | .medium => 2#3
  | .high => 3#3
  | .quiet => 4#3

/-- The fan speed an operand names, none for the illegal values 5, 6 and 7 (R21, R70). -/
def fanOfBits (b : BitVec 3) : Option FanSpeed :=
  if b = 0#3 then some .auto
  else if b = 1#3 then some .low
  else if b = 2#3 then some .medium
  else if b = 3#3 then some .high
  else if b = 4#3 then some .quiet
  else none

/-- The encoding of a swing mode (R23). -/
def swingBits (w : Swing) : BitVec 1 :=
  match w with
  | .off => 0#1
  | .vertical => 1#1

/-- The swing mode a one-bit operand names (R23, R70). -/
def swingOfBool (vertical : Bool) : Swing := if vertical then .vertical else .off

/-- What a TRANSMIT samples from the clock inputs, hour and minute (44_commands.md R125): 0 and 0 while CLK_VALID is 0,
and a fresh draw of all three where nothing fixes them (R33). -/
def sampleClock (s : State) : Byte × Byte :=
  match s.clk with
  | .driven valid hour minute => if valid then (hour, minute) else (0#8, 0#8)
  | .undriven =>
    if Config.drawClkValid s.draws then (Config.drawClkHour s.draws, Config.drawClkMin s.draws) else (0#8, 0#8)

end Sys2Proof.Machine
end

