-- ==== Sys2Proof/Machine/Flags.lean ====
section
/-! DEFINITION. The register STATUS: its bits as software reads them, and when the block is stuck (10_state.md R31;
60_exceptions.md R131, R134). -/

namespace Sys2Proof.Machine

/-- The codes of LAST_RX (R31). -/
def lastRxCode (l : LastRx) : Byte :=
  match l with
  | .noReceive => 0#8
  | .ok => 1#8
  | .noMatch => 2#8
  | .ckFail => 3#8

/-- RX_OK: 1 exactly when LAST_RX is OK (R31). -/
def rxOk (st : Status) : Bool := st.lastRx == .ok

/-- The codes of REASON (R131). -/
def reasonCode (r : Reason) : Byte :=
  match r with
  | .noReason => 0#8
  | .uninit => 1#8
  | .encoding => 2#8
  | .bcdRange => 3#8

/-- A flag as the value of bit 0. -/
def flagBit (b : Bool) : Byte := if b then 1#8 else 0#8

/-- The 8 bits of STATUS: LAST_RX [1:0], RX_OK [2], FAULT [3], REFUSED [4], REASON [7:5] (R31). -/
def statusWord (st : Status) : Byte :=
  lastRxCode st.lastRx ||| flagBit (rxOk st) <<< 2 ||| flagBit st.fault <<< 3 ||| flagBit st.refused <<< 4
    ||| reasonCode st.reason <<< 5

/-- A fault or a refusal was recorded, so the block takes no step for any command (R120, R134). -/
def isStuck (s : State) : Bool := s.status.fault || s.status.refused

/-- REASON after recording `r`: the first one stays (R131). -/
def firstReason (old r : Reason) : Reason := if old = .noReason then r else old

end Sys2Proof.Machine
end

