-- ==== Sys2Proof/Machine/Codec.lean ====
section
/-! DEFINITION. The State Codec, the block's field packer (40_state_codec.md R73 to R84). Every function here is of
values; the state is read and written by the commands. -/

namespace Sys2Proof.Machine

/-- `encode_mode` of SAVED_MODE (R73). -/
def encodeMode (savedMode : Mode) : Nibble :=
  match savedMode with
  | .cool => 0x2#4
  | .dry => 0x1#4
  | .heat => 0x8#4
  | .heatCool => 0xA#4
  | .fanOnly => 0x4#4
  | .off => 0x4#4

/-- `decode_mode` of State Frame byte 1 (R74). -/
def decodeMode (byte1 : Byte) : Mode :=
  let code := byte1.extractLsb' 0 4
  if code = 0x2#4 then .cool
  else if code = 0x1#4 then .dry
  else if code = 0x8#4 then .heat
  else if code = 0xA#4 then .heatCool
  else .fanOnly

/-- `encode_fan_speed` of FAN (R75). -/
def encodeFanSpeed (c : Config) (fan : FanSpeed) : Nibble :=
  match fan with
  | .auto => c.fanAuto
  | .low => c.fanLow
  | .medium => fanMedium
  | .high => c.fanHigh
  | .quiet => c.fanQuiet

/-- `decode_fan_speed` of State Frame byte 1 (R76). -/
def decodeFanSpeed (c : Config) (byte1 : Byte) : FanSpeed :=
  let code := byte1.extractLsb' 4 4
  if code = c.fanAuto then .auto
  else if code = c.fanLow then .low
  else if code = fanMedium then .medium
  else if code = c.fanHigh then .high
  else if code = c.fanStrong then .high
  else if code = c.fanQuiet then .quiet
  else .auto

/-- `encode_fan_swing` of SWING (R77). -/
def encodeFanSwing (swing : Swing) : Byte :=
  match swing with
  | .vertical => swingBit
  | .off => 0#8

/-- `decode_fan_swing` of State Frame byte 7 (R78). -/
def decodeFanSwing (byte7 : Byte) : Swing := if byte7 &&& swingBit ≠ 0#8 then .vertical else .off

/-- The BCD byte of a value whose tens digit fits a nibble (R59). -/
def bcdByte (v : Nat) : Byte := BitVec.ofNat 8 (v / 10) <<< 4 ||| BitVec.ofNat 8 (v % 10)

/-- `encode_bcd`, none where it refuses REF_BCD_RANGE (R79). -/
def encodeBcd (v : Nat) : Option Byte := if v > 99 then none else some (bcdByte v)

/-- The high nibble of a byte (20_memory.md R45). -/
def highNibble (b : Byte) : Nat := (b.extractLsb' 4 4).toNat

/-- The low nibble of a byte (20_memory.md R45). -/
def lowNibble (b : Byte) : Nat := (b.extractLsb' 0 4).toNat

/-- `decode_bcd`: a malformed byte gives the draw or, under the other policy, the source's expression (R80). -/
def decodeBcd (c : Config) (draw : Byte) (b : Byte) : Byte :=
  if highNibble b ≤ 9 ∧ lowNibble b ≤ 9 then BitVec.ofNat 8 (10 * highNibble b + lowNibble b)
  else
    match c.bcdMalformed with
    | .draw => draw
    | .formula => BitVec.ofNat 8 (10 * highNibble b + lowNibble b)

/-- `clamp_temp` (R81). -/
def clampTemp (t : Nat) : Nat := if t < tempMin then tempMin else if t > tempMax then tempMax else t

/-- `encode_temperature` of TEMP (R82); the clamped value never makes `encode_bcd` refuse. -/
def encodeTemperature (temp : Byte) : Byte := bcdByte (clampTemp temp.toNat)

/-- `decode_temperature` of State Frame byte 6, unclamped (R83). -/
def decodeTemperature (c : Config) (draw : Byte) (byte6 : Byte) : Byte := decodeBcd c draw byte6

/-- What `encode_power_toggle` returns and leaves in POWER_ON (R84). -/
structure Toggle where
  bit : Byte
  powerOn : Bool
  deriving DecidableEq, Repr

/-- `encode_power_toggle` of MODE and POWER_ON (R84). -/
def encodePowerToggle (c : Config) (mode : Mode) (powerOn : Bool) : Toggle :=
  let want := mode != .off
  if want ≠ powerOn then { bit := c.toggleBit, powerOn := !powerOn } else { bit := 0#8, powerOn := powerOn }

end Sys2Proof.Machine
end

