-- ==== Sys2Proof/Machine/Frames.lean ====
section
/-! DEFINITION. The frame builder and checksum unit (41_frames_checksum.md R88 to R93) and the two views of a frame
(20_memory.md R44). -/

namespace Sys2Proof.Machine

/-- A frame's bytes, byte 0 first (R42). -/
def frameBytes (f : Frame) : List Byte := [f.b0, f.b1, f.b2, f.b3, f.b4, f.b5, f.b6, f.b7]

/-- A frame from its little-endian 64-bit view (R44). -/
def frameOfWord (w : FrameWord) : Frame where
  b0 := w.extractLsb' 0 8
  b1 := w.extractLsb' 8 8
  b2 := w.extractLsb' 16 8
  b3 := w.extractLsb' 24 8
  b4 := w.extractLsb' 32 8
  b5 := w.extractLsb' 40 8
  b6 := w.extractLsb' 48 8
  b7 := w.extractLsb' 56 8

/-- The little-endian 64-bit view of a frame (R44). -/
def wordOfFrame (f : Frame) : FrameWord := f.b7 ++ f.b6 ++ f.b5 ++ f.b4 ++ f.b3 ++ f.b2 ++ f.b1 ++ f.b0

/-- `nibble_sum`, an unbounded natural (R88). -/
def nibbleSum (bytes : List Byte) : Nat := (bytes.map fun b => highNibble b + lowNibble b).sum

/-- `state_checksum` of a frame whose checksum nibble is still 0 (R89). -/
def stateChecksum (f : Frame) : Nibble := BitVec.ofNat 4 (nibbleSum (frameBytes f))

/-- `state_checksum_ok`, the validator used on receive (R90). -/
def stateChecksumOk (f : Frame) : Bool :=
  (nibbleSum [f.b0, f.b1, f.b2, f.b3, f.b4, f.b5, f.b6] + lowNibble f.b7) % 16 == highNibble f.b7

/-- State Frame byte 1 (30_encoding.md R57). -/
def modeFanByte (mode fan : Nibble) : Byte := mode.setWidth 8 ||| fan.setWidth 8 <<< 4

/-- The State Frame before its checksum nibble is inserted (R91). -/
def unsummedStateFrame (c : Config) (savedMode : Mode) (fan : FanSpeed) (swing : Swing) (temp : Byte)
    (minuteBcd hourBcd toggle : Byte) : Frame where
  b0 := sfHeader
  b1 := modeFanByte (encodeMode savedMode) (encodeFanSpeed c fan)
  b2 := minuteBcd
  b3 := hourBcd
  b4 := sfByte4
  b5 := sfByte5
  b6 := encodeTemperature temp
  b7 := toggle ||| constBit ||| encodeFanSwing swing

/-- Insert the checksum nibble into byte 7 (R91, last line). -/
def insertChecksum (f : Frame) : Frame := { f with b7 := f.b7 ||| (stateChecksum f).setWidth 8 <<< 4 }

/-- `build_state_frame` (R91). -/
def buildStateFrame (c : Config) (savedMode : Mode) (fan : FanSpeed) (swing : Swing) (temp : Byte)
    (minuteBcd hourBcd toggle : Byte) : Frame :=
  insertChecksum (unsummedStateFrame c savedMode fan swing temp minuteBcd hourBcd toggle)

/-- `control_checksum`: the sum of bytes 0 to 6 modulo 256 (R92). -/
def controlChecksum (f : Frame) : Byte :=
  BitVec.ofNat 8 (([f.b0, f.b1, f.b2, f.b3, f.b4, f.b5, f.b6].map BitVec.toNat).sum)

/-- Control Frame byte 1 (R61, R62). -/
def ledByte (c : Config) (ceiling wall : Bool) : Byte :=
  (if ceiling then c.ceilLedMask else 0#8) ||| (if wall then c.wallLedMask else 0#8)

/-- The Control Frame before its checksum (R93). -/
def unsummedControlFrame (c : Config) (ceiling wall : Bool) : Frame where
  b0 := cfHeader
  b1 := ledByte c ceiling wall
  b2 := 0#8
  b3 := 0#8
  b4 := 0#8
  b5 := 0#8
  b6 := 0#8
  b7 := 0#8

/-- `build_control_frame` (R93). -/
def buildControlFrame (c : Config) (ceiling wall : Bool) : Frame :=
  { unsummedControlFrame c ceiling wall with b7 := controlChecksum (unsummedControlFrame c ceiling wall) }

end Sys2Proof.Machine
end

