-- ==== Sys2Proof/Machine/Wave.lean ====
section
/-! DEFINITION. The frame serializer (42_serializer.md R97 to R107). -/

namespace Sys2Proof.Machine

/-- `bit_item` (R98). -/
def bitItem (c : Config) (x : Bool) : Item :=
  { mark := c.bitMark, space := if x then oneSpace c else zeroSpace c }

/-- `byte_items`, least-significant bit first (R99; 20_memory.md R43). -/
def byteItems (c : Config) (b : Byte) : List Item := (List.range 8).map fun j => bitItem c (b.getLsbD j)

/-- `frame_items`, byte 0 first (R100; 20_memory.md R42). -/
def frameItems (c : Config) (f : Frame) : List Item :=
  byteItems c f.b0 ++ byteItems c f.b1 ++ byteItems c f.b2 ++ byteItems c f.b3 ++ byteItems c f.b4
    ++ byteItems c f.b5 ++ byteItems c f.b6 ++ byteItems c f.b7

/-- The decoy item (R101). -/
def decoyItem (c : Config) : Item := { mark := c.decoyMark, space := c.decoySpace }

/-- `decoy_items` (R101). -/
def decoyItems (c : Config) : List Item := List.replicate c.decoyCount (decoyItem c)

/-- The header-1 item (R102). -/
def header1Item (c : Config) : Item := { mark := c.hdr1Mark, space := c.hdr1Space }

/-- The header-2 item (R102). -/
def header2Item (c : Config) : Item := { mark := c.hdr2Mark, space := c.hdr2Space }

/-- `header_items` (R102). -/
def headerItems (c : Config) : List Item := [header1Item c, header1Item c, header2Item c]

/-- `gap_item` (R103). -/
def gapItem (c : Config) : Item := { mark := c.gapMark, space := c.gapSpace }

/-- `trailer_items`: the trailing zero byte and the closing header-2 (R104). -/
def trailerItems (c : Config) : List Item := byteItems c 0#8 ++ [header2Item c]

/-- `serialize` (R105; 30_encoding.md R66). -/
def serialize (c : Config) (sf cf : Frame) : List Item :=
  decoyItems c ++ headerItems c ++ frameItems c sf ++ [gapItem c] ++ frameItems c cf ++ trailerItems c

/-- The waveform of one frame at nominal durations, headers first: the shortest waveform RECEIVE can accept
(30_encoding.md R67). -/
def frameWaveform (c : Config) (f : Frame) : List Item := headerItems c ++ frameItems c f

/-- The on-air length of a waveform in microseconds (R107). -/
def onAirTime (items : List Item) : Nat := (items.map fun it => it.mark.toNat + it.space.toNat).sum

end Sys2Proof.Machine
end

