-- ==== Sys2Proof/Machine/Rx.lean ====
section
/-! DEFINITION. The receive decoder and checksum validator (43_receive.md R109 to R112). The receive cursor
(10_state.md R37) is the index argument of these functions; the window itself stands in Machine/Params.lean. -/

namespace Sys2Proof.Machine

/-- `match(item, M, S)`: mark and space both in their windows (R110). -/
def itemMatches (c : Config) (it nominal : Item) : Bool :=
  inWindow c it.mark nominal.mark && inWindow c it.space nominal.space

/-- `read_bit`, none for MISMATCH; the ONE window is tested first (R111). -/
def readBit (c : Config) (it : Item) : Option Bool :=
  if itemMatches c it (bitItem c true) then some true
  else if itemMatches c it (bitItem c false) then some false
  else none

/-- The item at the cursor matches; a missing item does not (R112, R136). -/
def itemMatchesAt (c : Config) (rxw : List Item) (k : Nat) (nominal : Item) : Bool :=
  match rxw[k]? with
  | some it => itemMatches c it nominal
  | none => false

/-- The bit of the item at the cursor, none where the item is missing or mismatches (R112, R136). -/
def readBitAt (c : Config) (rxw : List Item) (k : Nat) : Option Bool :=
  match rxw[k]? with
  | some it => readBit c it
  | none => none

/-- `x << j` for one bit (R112). -/
def bitAt (x : Bool) (j : Nat) : Byte := if x then 1#8 <<< j else 0#8

/-- Eight bits at the cursor, least-significant first (R112). -/
def readByteAt (c : Config) (rxw : List Item) (k : Nat) : Option Byte := do
  let x0 ← readBitAt c rxw k
  let x1 ← readBitAt c rxw (k + 1)
  let x2 ← readBitAt c rxw (k + 2)
  let x3 ← readBitAt c rxw (k + 3)
  let x4 ← readBitAt c rxw (k + 4)
  let x5 ← readBitAt c rxw (k + 5)
  let x6 ← readBitAt c rxw (k + 6)
  let x7 ← readBitAt c rxw (k + 7)
  pure (bitAt x0 0 ||| bitAt x1 1 ||| bitAt x2 2 ||| bitAt x3 3 ||| bitAt x4 4 ||| bitAt x5 5 ||| bitAt x6 6
    ||| bitAt x7 7)

/-- The three header items (R112, step 1). -/
def headersMatch (c : Config) (rxw : List Item) : Bool :=
  itemMatchesAt c rxw 0 (header1Item c) && itemMatchesAt c rxw 1 (header1Item c)
    && itemMatchesAt c rxw 2 (header2Item c)

/-- Bytes 1 to 7 after byte 0 (R112, step 2). -/
def readFrameTail (c : Config) (rxw : List Item) (b0 : Byte) : Option Frame := do
  let b1 ← readByteAt c rxw 11
  let b2 ← readByteAt c rxw 19
  let b3 ← readByteAt c rxw 27
  let b4 ← readByteAt c rxw 35
  let b5 ← readByteAt c rxw 43
  let b6 ← readByteAt c rxw 51
  let b7 ← readByteAt c rxw 59
  pure { b0 := b0, b1 := b1, b2 := b2, b3 := b3, b4 := b4, b5 := b5, b6 := b6, b7 := b7 }

/-- The 8 bytes after the headers; byte 0 must be SF_HEADER as soon as it is read (R112, step 2). -/
def readStateFrame (c : Config) (rxw : List Item) : Option Frame :=
  match readByteAt c rxw 3 with
  | some b0 => if b0 = sfHeader then readFrameTail c rxw b0 else none
  | none => none

/-- The three outcomes of `receive_decode`; OK carries the validated frame. -/
inductive RxOutcome where
  | ok (frame : Frame)
  | noMatch
  | ckFail
  deriving DecidableEq, Repr

/-- `receive_decode` (R112). -/
def receiveDecode (c : Config) (rxw : List Item) : RxOutcome :=
  if headersMatch c rxw then
    match readStateFrame c rxw with
    | some f => if stateChecksumOk f then .ok f else .ckFail
    | none => .noMatch
  else .noMatch

end Sys2Proof.Machine
end

