-- ==== Sys2Proof/Machine/Ops.lean ====
section
/-! DEFINITION. The named operations on the state: register writes, events, the scratch buffers, recording a fault or a
refusal, and running a command (10_state.md R16 to R36; 44_commands.md R120; 60_exceptions.md R132 to R134). -/

namespace Sys2Proof.Machine

/-- Write MODE (R18). -/
def setMode (m : Mode) (s : State) : State := { s with mode := m }

/-- Write SAVED_MODE (R19). -/
def setSavedMode (m : Mode) (s : State) : State := { s with savedMode := m }

/-- Write POWER_ON (R25). -/
def setPowerOn (p : Bool) (s : State) : State := { s with powerOn := p }

/-- Write FAN and set WR_FAN (R22, R26). -/
def writeFan (f : FanSpeed) (s : State) : State := { s with fan := f, wrFan := true }

/-- Write SWING and set WR_SWING (R23, R26). -/
def writeSwing (w : Swing) (s : State) : State := { s with swing := w, wrSwing := true }

/-- Write TEMP and set WR_TEMP (R24, R26). -/
def writeTemp (t : Byte) (s : State) : State := { s with temp := t, wrTemp := true }

/-- Write LAST_RX, and with it RX_OK (R31). -/
def setLastRx (l : LastRx) (s : State) : State := { s with status := { s.status with lastRx := l } }

/-- `emit E`: append an event to EVT (R35). -/
def emit (e : Event) (s : State) : State := { s with evt := s.evt ++ [e] }

/-- Write the scratch buffer SF (R36). -/
def setSf (f : Frame) (s : State) : State := { s with sf := f }

/-- Write the scratch buffer CF (R36). -/
def setCf (f : Frame) (s : State) : State := { s with cf := f }

/-- The end of a command that used the scratch buffers: what they hold from here on is unspecified, a fresh draw
(R36). -/
def releaseScratch (s : State) : State :=
  { s with
    sf := frameOfDraw (Config.drawSf s.draws)
    cf := frameOfDraw (Config.drawCf s.draws)
    draws := s.draws + 1 }

/-- The receiver writes RXW (R34). -/
def setRxw (items : List Item) (s : State) : State := { s with rxw := items }

/-- The clock agent drives or releases the clock inputs (R33). -/
def setClock (p : ClockPort) (s : State) : State := { s with clk := p }

/-- Record fault F_UNINIT: FAULT and, if it was 0, REASON; nothing else (R132). -/
def recordFault (s : State) : State :=
  { s with status := { s.status with fault := true, reason := firstReason s.status.reason .uninit } }

/-- Record a refusal: REFUSED and, if it was 0, REASON; nothing else (R133). -/
def recordRefusal (r : Reason) (s : State) : State :=
  { s with status := { s.status with refused := true, reason := firstReason s.status.reason r } }

/-- Run a command as one atomic step, unless the block is stuck: then the command changes nothing (R48, R120, R134;
notes/assumptions/3.md). -/
def runCommand (k : State → State) (s : State) : Host.Outcome State Fault Refusal :=
  if isStuck s then .next s else .next (k s)

/-- Reset asserted by the platform: the way out of the stuck state (R138, R148, R149). -/
def platformReset (s : State) : State := State.afterReset s.cfg s.clk s.inputs s.draws

end Sys2Proof.Machine
end

