-- ==== Sys2Proof/Machine/Settings.lean ====
section
/-! DEFINITION. The state-writing commands SETMODE, SETFAN, SETSWING, SETTEMP (44_commands.md R121 to R124), and the
refusal of a word that is no command (30_encoding.md R71). -/

namespace Sys2Proof.Machine

/-- `SETMODE m` (R121). -/
def execSetmode (mode : BitVec 3) (s : State) : Host.Outcome State Fault Refusal :=
  runCommand (fun s =>
    match modeOfBits mode with
    | some m => setMode m s
    | none => recordRefusal .encoding s) s

/-- `SETFAN f` (R122). -/
def execSetfan (fan : BitVec 3) (s : State) : Host.Outcome State Fault Refusal :=
  runCommand (fun s =>
    match fanOfBits fan with
    | some f => writeFan f s
    | none => recordRefusal .encoding s) s

/-- `SETSWING s` (R123). -/
def execSetswing (vertical : Bool) (s : State) : Host.Outcome State Fault Refusal :=
  runCommand (writeSwing (swingOfBool vertical)) s

/-- `SETTEMP t` (R124). -/
def execSettemp (temp : Byte) (s : State) : Host.Outcome State Fault Refusal :=
  runCommand (writeTemp temp) s

/-- A word that is no command: REF_ENCODING (R71, R120). -/
def refuseWord (s : State) : Host.Outcome State Fault Refusal :=
  runCommand (recordRefusal .encoding) s

end Sys2Proof.Machine
end

