-- ==== Sys2Proof/Machine/Transmit.lean ====
section
/-! DEFINITION. The command TRANSMIT (44_commands.md R125). -/

namespace Sys2Proof.Machine

/-- Every register a frame is built from was written (R125, R132). -/
def isWritten (s : State) : Bool := s.wrFan && s.wrSwing && s.wrTemp

/-- Step 1: refresh SAVED_MODE from MODE unless MODE is Off (R125). -/
def refreshSavedMode (s : State) : State := if s.mode = .off then s else setSavedMode s.mode s

/-- Steps 3 and 4: compute the power toggle once, and build the State Frame in SF (R84, R91, R125). -/
def loadStateFrame (minuteBcd hourBcd : Byte) (s : State) : State :=
  let toggle := encodePowerToggle s.cfg s.mode s.powerOn
  setSf (buildStateFrame s.cfg s.savedMode s.fan s.swing s.temp minuteBcd hourBcd toggle.bit)
    (setPowerOn toggle.powerOn s)

/-- Step 5: build the Control Frame in CF (R93, R125). -/
def loadControlFrame (ceiling wall : Bool) (s : State) : State := setCf (buildControlFrame s.cfg ceiling wall) s

/-- Step 6: hand the waveform of SF and CF to the transmitter service (R106, R125). -/
def emitWaveform (s : State) : State := emit (.tx s.cfg.carrierHz (serialize s.cfg s.sf s.cf)) s

/-- A TRANSMIT that passed every check (R125, steps 1 to 6). -/
def transmitChecked (ceiling wall : Bool) (minuteBcd hourBcd : Byte) (s : State) : State :=
  releaseScratch (emitWaveform (loadControlFrame ceiling wall (loadStateFrame minuteBcd hourBcd (refreshSavedMode s))))

/-- `TRANSMIT c, w` (R125): F_UNINIT first, then REF_BCD_RANGE, both before any effect (60_exceptions.md R135). -/
def execTransmit (ceiling wall : Bool) (s : State) : Host.Outcome State Fault Refusal :=
  runCommand (fun s =>
    if isWritten s then
      match encodeBcd (sampleClock s).1.toNat, encodeBcd (sampleClock s).2.toNat with
      | some hourBcd, some minuteBcd => transmitChecked ceiling wall minuteBcd hourBcd s
      | _, _ => recordRefusal .bcdRange s
    else recordFault s) s

end Sys2Proof.Machine
end

