-- ==== Sys2Proof/Syntax.lean ====
section
/-! DEFINITION. The instructions of the codec, one constructor per row of spec/opcode_table.json: six command words
(30_encoding.md R70) and the two 64-bit frame layouts (R56, R61). -/

namespace Sys2Proof

/-- One row of the opcode table with its operands. -/
inductive Instr where
  /-- `SETMODE m` (R121): `mode` is CMD[2:0]; 6 and 7 are illegal. -/
  | setmode (mode : BitVec 3)
  /-- `SETFAN f` (R122): `fan` is CMD[2:0]; 5, 6 and 7 are illegal. -/
  | setfan (fan : BitVec 3)
  /-- `SETSWING s` (R123): `vertical` is CMD[0]. -/
  | setswing (vertical : Bool)
  /-- `SETTEMP t` (R124): `temp` is CMD[7:0]. -/
  | settemp (temp : Byte)
  /-- `TRANSMIT c, w` (R125): `ceiling` is CMD[0], `wall` is CMD[1]. -/
  | transmit (ceiling wall : Bool)
  /-- `RECEIVE` (R126). -/
  | receive
  /-- A State Frame (R56), presented to the receive path (notes/assumptions/16.md). Bytes 4 and 5 are operands because a
  received frame may hold any value there (R60). -/
  | stateFrame (mode fan : Nibble) (minute hour byte4 byte5 temp : Byte) (flags check : Nibble)
  /-- A Control Frame (R61), presented to the receive path (notes/assumptions/17.md). -/
  | controlFrame (leds check : Byte)
  deriving DecidableEq, Repr

end Sys2Proof
end

