-- ==== Sys2Proof/Decode.lean ====
section
/-! DEFINITION. The decoder of command words and frames, total and rejecting by name (30_encoding.md R56, R61, R69 to
R72), and after it the encoder, written from the same tables. -/

namespace Sys2Proof

/-- Why a word is no instruction. -/
inductive DecodeError where
  /-- Opcode 0x0 or 0x7 to 0xF (R71). -/
  | reservedOpcode (op : Nibble)
  /-- A bit of CMD[11:0] that R70 does not name is 1 (R71); the mnemonic is the opcode's. -/
  | reservedBits (mnemonic : String)
  /-- Byte 0 of a 64-bit word is neither 0x16 nor 0xA1 (R56, R61). -/
  | unknownHeader (byte0 : Byte)
  /-- Byte 0 is 0xA1 and bytes 2 to 6 are not all zero (R61). -/
  | controlFrameNotZero
  deriving DecidableEq, Repr

/-- What decoding a word gives. -/
inductive Decoded where
  | instr (i : Instr)
  | rejected (e : DecodeError)
  deriving DecidableEq, Repr

/-- The instruction, if there is one. -/
def Decoded.toOption : Decoded → Option Instr
  | .instr i => some i
  | .rejected _ => none

/-- The opcode field OP (R69). -/
def opcode (w : CommandWord) : Nibble := w.extractLsb' 12 4

/-- The mnemonic an opcode selects (R70), for the names of rejections. -/
def opcodeMnemonic (op : Nibble) : String :=
  if op = 1#4 then "SETMODE"
  else if op = 2#4 then "SETFAN"
  else if op = 3#4 then "SETSWING"
  else if op = 4#4 then "SETTEMP"
  else if op = 5#4 then "TRANSMIT"
  else if op = 6#4 then "RECEIVE"
  else "reserved"

/-- An instruction, provided its reserved field is 0. -/
def unlessReserved (op : Nibble) (reservedZero : Bool) (i : Instr) : Decoded :=
  if reservedZero then .instr i else .rejected (.reservedBits (opcodeMnemonic op))

/-- Decode a command word by the opcode map of R70. Operand values are passed on as they stand: an illegal SETMODE or
SETFAN operand is refused by the command itself (R121, R122). -/
def decodeCommand (w : CommandWord) : Decoded :=
  let op := opcode w
  if op = 1#4 then unlessReserved op (w.extractLsb' 3 9 == 0#9) (.setmode (w.extractLsb' 0 3))
  else if op = 2#4 then unlessReserved op (w.extractLsb' 3 9 == 0#9) (.setfan (w.extractLsb' 0 3))
  else if op = 3#4 then unlessReserved op (w.extractLsb' 1 11 == 0#11) (.setswing (w.getLsbD 0))
  else if op = 4#4 then unlessReserved op (w.extractLsb' 8 4 == 0#4) (.settemp (w.extractLsb' 0 8))
  else if op = 5#4 then
    unlessReserved op (w.extractLsb' 2 10 == 0#10) (.transmit (w.getLsbD 0) (w.getLsbD 1))
  else if op = 6#4 then unlessReserved op (w.extractLsb' 0 12 == 0#12) .receive
  else .rejected (.reservedOpcode op)

/-- Decode a 64-bit frame word, little-endian (R44, R56, R61). A State Frame is known by byte 0 alone, because a
received one may hold any value in bytes 4 and 5 (R60). -/
def decodeFrame (f : FrameWord) : Decoded :=
  let byte0 := f.extractLsb' 0 8
  if byte0 = 0x16#8 then
    .instr (.stateFrame (f.extractLsb' 8 4) (f.extractLsb' 12 4) (f.extractLsb' 16 8) (f.extractLsb' 24 8)
      (f.extractLsb' 32 8) (f.extractLsb' 40 8) (f.extractLsb' 48 8) (f.extractLsb' 56 4) (f.extractLsb' 60 4))
  else if byte0 = 0xA1#8 then
    if f.extractLsb' 16 40 = 0#40 then .instr (.controlFrame (f.extractLsb' 8 8) (f.extractLsb' 56 8))
    else .rejected .controlFrameNotZero
  else .rejected (.unknownHeader byte0)

/-- The instruction the decoder reads from an opcode-table word of `nbits` bits: a command word of 16 bits or a frame of
64 bits (R72). -/
def decodeTableWord (nbits w : Nat) : Option Instr :=
  if nbits ≤ 16 then (decodeCommand (BitVec.ofNat 16 w)).toOption
  else (decodeFrame (BitVec.ofNat 64 w)).toOption

/-- How many bits the instruction has: 16 for a command, 64 for a frame (R72). -/
def Instr.nbits : Instr → Nat
  | .setmode _ => 16
  | .setfan _ => 16
  | .setswing _ => 16
  | .settemp _ => 16
  | .transmit _ _ => 16
  | .receive => 16
  | .stateFrame _ _ _ _ _ _ _ _ _ => 64
  | .controlFrame _ _ => 64

/-- The bit 1 or 0 of a one-bit operand. -/
def bitOf (b : Bool) : BitVec 1 := BitVec.ofBool b

/-- The words of an instruction as one number, bit 0 the least significant bit of its first word (R56, R61, R70). -/
def encode : Instr → Nat
  | .setmode mode => (1#4 ++ 0#9 ++ mode).toNat
  | .setfan fan => (2#4 ++ 0#9 ++ fan).toNat
  | .setswing vertical => (3#4 ++ 0#11 ++ bitOf vertical).toNat
  | .settemp temp => (4#4 ++ 0#4 ++ temp).toNat
  | .transmit ceiling wall => (5#4 ++ 0#10 ++ bitOf wall ++ bitOf ceiling).toNat
  | .receive => (6#4 ++ 0#12).toNat
  | .stateFrame mode fan minute hour byte4 byte5 temp flags check =>
    (check ++ flags ++ temp ++ byte5 ++ byte4 ++ hour ++ minute ++ fan ++ mode ++ 0x16#8).toNat
  | .controlFrame leds check => (check ++ 0#40 ++ leds ++ 0xA1#8).toNat

end Sys2Proof
end

