-- ==== Sys2Proof/Machine/Receive.lean ====
section
/-! DEFINITION. The command RECEIVE (43_receive.md R113, R114; 44_commands.md R126). -/

namespace Sys2Proof.Machine

/-- The new POWER_ON: flipped if the frame's toggle bit is set (R114). -/
def receivedPower (c : Config) (f : Frame) (powerOn : Bool) : Bool :=
  if f.b7 &&& c.toggleBit ≠ 0#8 then !powerOn else powerOn

/-- `receive_transition` on the validated frame in SF, its notification included (R114). -/
def receiveTransition (s : State) : State :=
  let power := receivedPower s.cfg s.sf s.powerOn
  let saved := decodeMode s.sf.b1
  emit .notify
    (writeTemp (decodeTemperature s.cfg (Config.drawByte s.draws) s.sf.b6)
      (writeSwing (decodeFanSwing s.sf.b7)
        (writeFan (decodeFanSpeed s.cfg s.sf.b1)
          (setMode (if power then saved else .off) (setSavedMode saved (setPowerOn power s))))))

/-- What each outcome of `receive_decode` does (R113). -/
def applyRxOutcome (o : RxOutcome) (s : State) : State :=
  match o with
  | .ok f => setLastRx .ok (receiveTransition (setSf f s))
  | .noMatch => setLastRx .noMatch s
  | .ckFail => setLastRx .ckFail (emit .warnChecksum s)

/-- `RECEIVE` (R126). -/
def execReceive (s : State) : Host.Outcome State Fault Refusal :=
  runCommand (fun s => releaseScratch (applyRxOutcome (receiveDecode s.cfg s.rxw) s)) s

end Sys2Proof.Machine
end

