-- ==== Sys2Proof/Machine/WireFrames.lean ====
section
/-! DEFINITION. The two FRAME64 rows of the opcode table as instructions: a frame presented to the block on its receive
path, ON_WAVEFORM of 44_commands.md R128 with the frame's nominal waveform (30_encoding.md R67; notes/assumptions/16.md,
17.md). -/

namespace Sys2Proof.Machine

/-- The receiver writes the frame's nominal waveform into RXW, then RECEIVE runs (R128, R126). -/
def presentFrame (f : Frame) (s : State) : Host.Outcome State Fault Refusal :=
  execReceive (setRxw (frameWaveform s.cfg f) s)

/-- The State Frame of its fields (R56, R57, R58). -/
def stateFrameOf (mode fan : Nibble) (minute hour byte4 byte5 temp : Byte) (flags check : Nibble) : Frame where
  b0 := sfHeader
  b1 := modeFanByte mode fan
  b2 := minute
  b3 := hour
  b4 := byte4
  b5 := byte5
  b6 := temp
  b7 := flags.setWidth 8 ||| check.setWidth 8 <<< 4

/-- The Control Frame of its fields (R61). -/
def controlFrameOf (leds check : Byte) : Frame where
  b0 := cfHeader
  b1 := leds
  b2 := 0#8
  b3 := 0#8
  b4 := 0#8
  b5 := 0#8
  b6 := 0#8
  b7 := check

/-- A State Frame (R56). -/
def execStateFrame (mode fan : Nibble) (minute hour byte4 byte5 temp : Byte) (flags check : Nibble) (s : State) :
    Host.Outcome State Fault Refusal :=
  presentFrame (stateFrameOf mode fan minute hour byte4 byte5 temp flags check) s

/-- A Control Frame (R61). -/
def execControlFrame (leds check : Byte) (s : State) : Host.Outcome State Fault Refusal :=
  presentFrame (controlFrameOf leds check) s

/-- A 64-bit frame that is neither: presented to the receive path all the same (R112; notes/assumptions/18.md). -/
def presentWord (w : FrameWord) (s : State) : Host.Outcome State Fault Refusal := presentFrame (frameOfWord w) s

end Sys2Proof.Machine
end

