-- ==== Sys2Proof/Machine/Dispatch.lean ====
section
/-! DEFINITION. One arm per instruction (44_commands.md R120; 30_encoding.md R70, R56, R61). -/

namespace Sys2Proof.Machine

def exec (i : Instr) (s : State) : Host.Outcome State Fault Refusal :=
  match i with
  | .setmode mode => Sys2Proof.Machine.execSetmode mode s
  | .setfan fan => Sys2Proof.Machine.execSetfan fan s
  | .setswing vertical => Sys2Proof.Machine.execSetswing vertical s
  | .settemp temp => Sys2Proof.Machine.execSettemp temp s
  | .transmit ceiling wall => Sys2Proof.Machine.execTransmit ceiling wall s
  | .receive => Sys2Proof.Machine.execReceive s
  | .stateFrame mode fan minute hour byte4 byte5 temp flags check => Sys2Proof.Machine.execStateFrame mode fan minute hour byte4 byte5 temp flags check s
  | .controlFrame leds check => Sys2Proof.Machine.execControlFrame leds check s

end Sys2Proof.Machine
end

