-- ==== Sys2Proof/Machine/Step.lean ====
section
/-! DEFINITION. One step: the next thing an agent outside the block does, and what the block does about it
(20_memory.md R48, R50; 60_exceptions.md R144; 70_reset_and_hazards.md R150). -/

namespace Sys2Proof.Machine

/-- A word written to CMD: decoded and run, or refused REF_ENCODING (44_commands.md R120). -/
def stepCommand (w : CommandWord) (s : State) : Host.Outcome State Fault Refusal :=
  match decodeCommand w with
  | .instr i => exec i s
  | .rejected _ => refuseWord s

/-- A 64-bit frame presented by the receiver (44_commands.md R128). -/
def stepFrame (w : FrameWord) (s : State) : Host.Outcome State Fault Refusal :=
  match decodeFrame w with
  | .instr i => exec i s
  | .rejected _ => presentWord w s

/-- Take the next pending input; with none the block waits (R150). -/
def step (s : State) : Host.Outcome State Fault Refusal :=
  match s.inputs with
  | [] => .next s
  | .cmd w :: rest => stepCommand w { s with inputs := rest }
  | .frame w :: rest => stepFrame w { s with inputs := rest }
  | .rxw items :: rest => .next (setRxw items { s with inputs := rest })
  | .clock port :: rest => .next (setClock port { s with inputs := rest })
  | .reset :: rest => .next (platformReset { s with inputs := rest })

/-- The input that carries an opcode-table word of `nbits` bits. -/
def inputOfWord (nbits w : Nat) : Input :=
  if nbits ≤ 16 then .cmd (BitVec.ofNat 16 w) else .frame (BitVec.ofNat 64 w)

/-- The state with an opcode-table word as the next input: the host writes it to CMD, or the receiver presents it
(notes/assumptions/2.md). -/
def State.withFetchWord (s : State) (nbits w : Nat) : State := { s with inputs := inputOfWord nbits w :: s.inputs }

end Sys2Proof.Machine
end

