-- ==== Sys2Proof/Machine/Asm.lean ====
section
/-! DEFINITION. The assembler syntax and the pseudo-instructions (44_commands.md R127, R128), on one line given as its
characters. -/

namespace Sys2Proof.Machine

/-- What a line assembles to. -/
inductive AsmLine where
  /-- Nothing but space and comment. -/
  | blank
  | instr (i : Instr)
  | malformed
  deriving DecidableEq, Repr

/-- A space or a tab. -/
def isBlankChar (c : Char) : Bool := c == ' ' || c == '\t'

/-- The text up to the comment sign (R127). -/
def beforeComment (line : List Char) : List Char := line.takeWhile (· != ';')

/-- Drop the blanks at both ends. -/
def trimBlanks (cs : List Char) : List Char :=
  ((cs.dropWhile isBlankChar).reverse.dropWhile isBlankChar).reverse

/-- The operands of a line, separated by commas (R127); a line with no operand text has none. -/
def operandTexts (cs : List Char) : List (List Char) :=
  if trimBlanks cs = [] then [] else (cs.splitOn ',').map trimBlanks

/-- The value of a digit character in base 16. -/
def digitValue (c : Char) : Option Nat :=
  let n := c.toNat
  if 48 ≤ n ∧ n ≤ 57 then some (n - 48)
  else if 97 ≤ n ∧ n ≤ 102 then some (n - 87)
  else if 65 ≤ n ∧ n ≤ 70 then some (n - 55)
  else none

/-- A non-empty digit string in a base, read from the left with an accumulator. -/
def readDigits (base : Nat) (acc : Nat) : List Char → Option Nat
  | [] => some acc
  | c :: rest =>
    match digitValue c with
    | some d => if d < base then readDigits base (base * acc + d) rest else none
    | none => none

/-- A number: decimal unless written `0x..` (R127). -/
def readNumber (cs : List Char) : Option Nat :=
  match cs with
  | [] => none
  | '0' :: 'x' :: digit :: rest => readDigits 16 0 (digit :: rest)
  | _ => readDigits 10 0 cs

/-- The position of a name in the list of an operand's names, or a number below the list's length (R127). -/
def readNamed (names : List (List Char)) (cs : List Char) : Option Nat :=
  if names.idxOf cs < names.length then some (names.idxOf cs)
  else
    match readNumber cs with
    | some n => if n < names.length then some n else none
    | none => none

/-- The operand names of SETMODE, by value (R127; 10_state.md R17). -/
def modeNames : List (List Char) :=
  ["Off".toList, "Cool".toList, "Dry".toList, "Heat".toList, "HeatCool".toList, "FanOnly".toList]

/-- The operand names of SETFAN, by value (R127; 10_state.md R21). -/
def fanNames : List (List Char) :=
  ["Auto".toList, "Low".toList, "Medium".toList, "High".toList, "Quiet".toList]

/-- The operand names of SETSWING, by value (R127; 10_state.md R23). -/
def swingNames : List (List Char) := ["Off".toList, "Vertical".toList]

/-- A number below a bound. -/
def readBelow (bound : Nat) (cs : List Char) : Option Nat :=
  match readNumber cs with
  | some n => if n < bound then some n else none
  | none => none

/-- The instruction of an operand value, or a malformed line. -/
def withOperand (v : Option Nat) (f : Nat → Instr) : AsmLine :=
  match v with
  | some n => .instr (f n)
  | none => .malformed

/-- TRANSMIT's two bits `c, w` (R127). -/
def withTwoBits (c w : Option Nat) : AsmLine :=
  match c, w with
  | some c, some w => .instr (.transmit (c == 1) (w == 1))
  | _, _ => .malformed

/-- A mnemonic in lower case with its operands; the last four are the pseudo-instructions of R128. -/
def assembleParts (mnemonic : List Char) (operands : List (List Char)) : AsmLine :=
  match operands with
  | [] =>
    if mnemonic = "receive".toList then .instr .receive
    else if mnemonic = "broadcast".toList then .instr (.transmit false false)
    else if mnemonic = "led_ceiling".toList then .instr (.transmit true false)
    else if mnemonic = "led_wall".toList then .instr (.transmit false true)
    else if mnemonic = "on_waveform".toList then .instr .receive
    else .malformed
  | [x] =>
    if mnemonic = "setmode".toList then withOperand (readNamed modeNames x) fun n => .setmode (BitVec.ofNat 3 n)
    else if mnemonic = "setfan".toList then withOperand (readNamed fanNames x) fun n => .setfan (BitVec.ofNat 3 n)
    else if mnemonic = "setswing".toList then withOperand (readNamed swingNames x) fun n => .setswing (n == 1)
    else if mnemonic = "settemp".toList then withOperand (readBelow 256 x) fun n => .settemp (BitVec.ofNat 8 n)
    else .malformed
  | [x, y] =>
    if mnemonic = "transmit".toList then withTwoBits (readBelow 2 x) (readBelow 2 y) else .malformed
  | _ => .malformed

/-- Assemble one line: mnemonic, in any case, then operands; comments start with `;` (R127). -/
def assembleLine (line : List Char) : AsmLine :=
  let text := trimBlanks (beforeComment line)
  if text = [] then .blank
  else
    let mnemonic := text.takeWhile (fun c => !isBlankChar c)
    let rest := text.dropWhile (fun c => !isBlankChar c)
    assembleParts (mnemonic.map Char.toLower) (operandTexts rest)

end Sys2Proof.Machine
end

