-- ==== Sys2Proof/Machine/Ports.lean ====
section
/-! DEFINITION. What the outside sees of the state without changing it: the read port (10_state.md R32) and the views
of the event log that the collaborators read (60_exceptions.md R140, R143, R145). -/

namespace Sys2Proof.Machine

/-- One answer of the read port. FAN, SWING and TEMP are absent while unwritten (R32). -/
structure ReadPort where
  mode : BitVec 3
  savedMode : BitVec 3
  fan : Option (BitVec 3)
  swing : Option (BitVec 1)
  temp : Option Byte
  powerOn : Bool
  wrFan : Bool
  wrSwing : Bool
  wrTemp : Bool
  status : Byte
  deriving DecidableEq, Repr

/-- A value behind its written bit (R32). -/
def ifWritten {α : Type} (written : Bool) (v : α) : Option α := if written then some v else none

/-- The read port (R32). -/
def readPort (s : State) : ReadPort where
  mode := modeBits s.mode
  savedMode := modeBits s.savedMode
  fan := ifWritten s.wrFan (fanBits s.fan)
  swing := ifWritten s.wrSwing (swingBits s.swing)
  temp := ifWritten s.wrTemp s.temp
  powerOn := s.powerOn
  wrFan := s.wrFan
  wrSwing := s.wrSwing
  wrTemp := s.wrTemp
  status := statusWord s.status

/-- The waveform of a TX event. -/
def txOf (e : Event) : Option (Nat × List Item) :=
  match e with
  | .tx carrierHz items => some (carrierHz, items)
  | .notify => none
  | .warnChecksum => none

/-- What the transmitter service emits, in log order (R140). -/
def transmitted (s : State) : List (Nat × List Item) := s.evt.filterMap txOf

/-- How often the state-change notifier was invoked (R143). -/
def notifications (s : State) : Nat := s.evt.count .notify

/-- How many checksum warnings were emitted (R145). -/
def warnings (s : State) : Nat := s.evt.count .warnChecksum

end Sys2Proof.Machine
end

