-- ==== Sys2Proof/Safety.lean ====
section
/-! DEFINITION. What counts as a good state and what holds of every state a run can reach (10_state.md R20, R26, R31,
R35; 60_exceptions.md R131 to R134), in the terms the claims use. -/

namespace Sys2Proof.Machine

/-- No fault and no refusal is recorded: only such a state is a good final state (R134). -/
def isServiceable (s : State) : Bool := !isStuck s

/-- REASON, FAULT and REFUSED tell one story (R131, R132, R133). -/
structure StatusConsistent (st : Status) : Prop where
  /-- FAULT is set by F_UNINIT alone. -/
  fault_reason : st.fault = true → st.reason = .uninit
  /-- REFUSED is set by one of the two refusals. -/
  refused_reason : st.refused = true → st.reason = .encoding ∨ st.reason = .bcdRange
  /-- A reason is recorded only with its mark. -/
  reason_marked : st.reason ≠ .noReason → st.fault = true ∨ st.refused = true

/-- A TX event carries the carrier and a waveform of `DECOY_COUNT + 141` items (R66, R106). -/
def eventFits (c : Config) (e : Event) : Prop :=
  match e with
  | .tx carrierHz items => carrierHz = c.carrierHz ∧ items.length = c.decoyCount + 141
  | .notify => True
  | .warnChecksum => True

/-- An event that only RECEIVE appends (R35). -/
def isReceiveEvent (e : Event) : Prop := e = .notify ∨ e = .warnChecksum

/-- The invariant of the block: it holds at reset and every step keeps it. -/
structure StateInv (s : State) : Prop where
  /-- SAVED_MODE is never Off (R20). -/
  saved_not_off : s.savedMode ≠ .off
  /-- STATUS is consistent (R131 to R133). -/
  status_consistent : StatusConsistent s.status
  /-- Every TX event has the fixed form (R66, R106). -/
  events_fit : ∀ e ∈ s.evt, eventFits s.cfg e
  /-- While LAST_RX is NONE no RECEIVE has appended an event (R31, R35). -/
  no_receive_events : s.status.lastRx = .noReceive → ∀ e ∈ s.evt, ¬ isReceiveEvent e
  /-- LAST_RX = OK goes with a NOTIFY in the log, LAST_RX = CKFAIL with a warning (R113). -/
  ok_notified : s.status.lastRx = .ok → Event.notify ∈ s.evt
  ckfail_warned : s.status.lastRx = .ckFail → Event.warnChecksum ∈ s.evt
  /-- A TX or a NOTIFY event is in the log only where FAN, SWING and TEMP have been written (R26, R114, R132). -/
  events_written : ∀ e ∈ s.evt, e ≠ .warnChecksum → isWritten s = true

end Sys2Proof.Machine
end

