-- ==== Sys2Proof/WellFormed.lean ====
section
/-! DEFINITION. Which instructions have legal operands (30_encoding.md R70, R71). -/

namespace Sys2Proof

/-- The operand values are in the legal column of R70. The frames' fields may hold any value (R60, R61, R94). -/
def Instr.wellFormed : Instr → Bool
  | .setmode mode => decide (mode.toNat ≤ 5)
  | .setfan fan => decide (fan.toNat ≤ 4)
  | .setswing _ => true
  | .settemp _ => true
  | .transmit _ _ => true
  | .receive => true
  | .stateFrame _ _ _ _ _ _ _ _ _ => true
  | .controlFrame _ _ => true

end Sys2Proof
end

