-- ==== Sys2Proof/Certificates/Slice0/Obligations.lean ====
section
/-! DEFINITION. The statements for the provers, each a rule of spec/ in terms of the model. A next state is written as a
record update of the state before, so everything not named in it is unchanged: that is the frame. The scratch buffers
SF and CF and the draw counter are unspecified after TRANSMIT and RECEIVE (10_state.md R36), so they are existential. -/

open Sys2Proof Sys2Proof.Machine

/-! ## Encoding -/

/-- Decoding the words of a well-formed instruction gives the instruction, for every operand (R56, R61, R70). -/
def Obligations.DecodeOfEncodeIsTheInstruction : Prop :=
  ∀ i : Instr, i.wellFormed = true → decodeTableWord i.nbits (encode i) = some i

/-- A word that decodes is the encoding of what it decodes to: no two words are one instruction (R70, R72). -/
def Obligations.AcceptedWordIsItsEncoding : Prop :=
  (∀ (w : CommandWord) (i : Instr), decodeCommand w = .instr i → i.nbits = 16 ∧ encode i = w.toNat) ∧
  (∀ (f : FrameWord) (i : Instr), decodeFrame f = .instr i → i.nbits = 64 ∧ encode i = f.toNat)

/-- Words written out from the encodings of R70, R56 and R61 decode to what they stand for. -/
def Obligations.SpecWordsDecode : Prop :=
  decodeTableWord 16 0b0001000000000101 = some (.setmode 5#3) ∧
  decodeTableWord 16 0b0010000000000010 = some (.setfan 2#3) ∧
  decodeTableWord 16 0b0011000000000001 = some (.setswing true) ∧
  decodeTableWord 16 0b0100000000100011 = some (.settemp 35#8) ∧
  decodeTableWord 16 0b0101000000000001 = some (.transmit true false) ∧
  decodeTableWord 16 0b0101000000000010 = some (.transmit false true) ∧
  decodeTableWord 16 0b0110000000000000 = some .receive ∧
  decodeTableWord 64 0x7C24041300004216
    = some (.stateFrame 0x2#4 0x4#4 0x00#8 0x00#8 0x13#8 0x04#8 0x24#8 0xC#4 0x7#4) ∧
  decodeTableWord 64 0xA2000000000001A1 = some (.controlFrame 0x01#8 0xA2#8) ∧
  decodeTableWord 16 0b0111000000000000 = none ∧
  decodeTableWord 16 0b0001000000001001 = none

/-- The words of R70's table with a legal operand, by their match and mask. -/
def Sys2Proof.isLegalWord (w : CommandWord) : Prop :=
  (w &&& 0xFFF8#16 = 0x1000#16 ∧ (w &&& 0x0007#16).toNat ≤ 5) ∨
  (w &&& 0xFFF8#16 = 0x2000#16 ∧ (w &&& 0x0007#16).toNat ≤ 4) ∨
  w &&& 0xFFFE#16 = 0x3000#16 ∨
  w &&& 0xFF00#16 = 0x4000#16 ∨
  w &&& 0xFFFC#16 = 0x5000#16 ∨
  w = 0x6000#16

/-- The state with refusal `r` recorded: REFUSED, and REASON if it was 0; nothing else (R133). -/
def Sys2Proof.withRefusal (r : Reason) (s : State) : State :=
  { s with
    status := { s.status with
      refused := true, reason := if s.status.reason = .noReason then r else s.status.reason } }

/-- Every reserved or illegal command word is refused REF_ENCODING (R71, with the effect of R133) by a block that is not
stuck (R120), and has no other effect than to be taken off the list of pending inputs, which is the model's own
(notes/assumptions/2.md). -/
def Obligations.IllegalWordIsRefused : Prop :=
  ∀ (s : State) (w : CommandWord) (rest : List Input),
    s.inputs = .cmd w :: rest → isStuck s = false → ¬ isLegalWord w →
      step s = .next (withRefusal .encoding { s with inputs := rest })

/-- The illegal operand values of SETMODE and SETFAN are refused by the command itself (R121, R122). -/
def Obligations.IllegalOperandIsRefused : Prop :=
  ∀ s : State, isStuck s = false →
    (∀ m : BitVec 3, 5 < m.toNat → exec (.setmode m) s = .next (withRefusal .encoding s)) ∧
    (∀ f : BitVec 3, 4 < f.toNat → exec (.setfan f) s = .next (withRefusal .encoding s))

/-! ## The step -/

/-- A step runs the decoded instruction, whichever way its word comes in (R120, R128): it takes the word off the list of
pending inputs, which is the model's own (notes/assumptions/2.md), and adds nothing else. -/
def Obligations.StepRunsTheDecodedInstruction : Prop :=
  ∀ (s : State) (rest : List Input) (i : Instr),
    (∀ w : CommandWord, s.inputs = .cmd w :: rest → decodeCommand w = .instr i →
      step s = exec i { s with inputs := rest }) ∧
    (∀ f : FrameWord, s.inputs = .frame f :: rest → decodeFrame f = .instr i →
      step s = exec i { s with inputs := rest }) ∧
    (∀ nbits w : Nat, decodeTableWord nbits w = some i → step (s.withFetchWord nbits w) = exec i s)

/-- What the other agents do between commands: the receiver writes RXW, the clock agent sets its inputs, and with
nothing pending the block waits (R34, R33, R150); the list of pending inputs is the model's own
(notes/assumptions/2.md, 27.md). -/
def Obligations.OtherAgentsBetweenCommands : Prop :=
  ∀ (s : State) (rest : List Input),
    (s.inputs = [] → step s = .next s) ∧
    (∀ items, s.inputs = .rxw items :: rest → step s = .next { s with inputs := rest, rxw := items }) ∧
    (∀ port, s.inputs = .clock port :: rest → step s = .next { s with inputs := rest, clk := port })

/-- After a fault or a refusal no command takes a step: the block's state stays as it is (R120, R134; for the frames
the receiver still writes RXW, notes/assumptions/3.md, 16.md). The last clause says it of every word written to CMD,
reserved and illegal ones too, because the check comes before the decoding (R120); the word is taken off the model's list
of pending inputs (notes/assumptions/2.md). Stuck means FAULT or REFUSED (R134). -/
def Obligations.StuckBlockTakesNoStep : Prop :=
  (∀ s : State, isStuck s = true ↔ s.status.fault = true ∨ s.status.refused = true) ∧
  ∀ s : State, isStuck s = true →
    (∀ m, exec (.setmode m) s = .next s) ∧ (∀ f, exec (.setfan f) s = .next s) ∧
    (∀ v, exec (.setswing v) s = .next s) ∧ (∀ t, exec (.settemp t) s = .next s) ∧
    (∀ c w, exec (.transmit c w) s = .next s) ∧ exec .receive s = .next s ∧
    (∀ m f n h b4 b5 t g k, exec (.stateFrame m f n h b4 b5 t g k) s
      = .next { s with rxw := frameWaveform s.cfg (stateFrameOf m f n h b4 b5 t g k) }) ∧
    (∀ l k, exec (.controlFrame l k) s = .next { s with rxw := frameWaveform s.cfg (controlFrameOf l k) }) ∧
    (∀ (w : CommandWord) (rest : List Input), s.inputs = .cmd w :: rest → step s = .next { s with inputs := rest })

/-- From every state a step answers a next state. No condition is fatal (R129); that a recorded fault or refusal, and a
command to a stuck block, is a next state is the model's choice (notes/assumptions/3.md). -/
def Obligations.StepAlwaysAnswers : Prop := ∀ s : State, ∃ t, step s = .next t

/-! ## State writes -/

/-- SETMODE writes MODE and nothing else; SAVED_MODE and POWER_ON are not touched (R121, encoding R17). -/
def Obligations.SetModeWritesMode : Prop :=
  ∀ s : State, isStuck s = false →
    exec (.setmode 0#3) s = .next { s with mode := .off } ∧ exec (.setmode 1#3) s = .next { s with mode := .cool } ∧
    exec (.setmode 2#3) s = .next { s with mode := .dry } ∧ exec (.setmode 3#3) s = .next { s with mode := .heat } ∧
    exec (.setmode 4#3) s = .next { s with mode := .heatCool } ∧
    exec (.setmode 5#3) s = .next { s with mode := .fanOnly }

/-- SETFAN writes FAN, sets WR_FAN, and nothing else (R122, encoding R21). -/
def Obligations.SetFanWritesFan : Prop :=
  ∀ s : State, isStuck s = false →
    exec (.setfan 0#3) s = .next { s with fan := .auto, wrFan := true } ∧
    exec (.setfan 1#3) s = .next { s with fan := .low, wrFan := true } ∧
    exec (.setfan 2#3) s = .next { s with fan := .medium, wrFan := true } ∧
    exec (.setfan 3#3) s = .next { s with fan := .high, wrFan := true } ∧
    exec (.setfan 4#3) s = .next { s with fan := .quiet, wrFan := true }

/-- SETSWING writes SWING, sets WR_SWING, and nothing else (R123). -/
def Obligations.SetSwingWritesSwing : Prop :=
  ∀ s : State, isStuck s = false →
    exec (.setswing false) s = .next { s with swing := .off, wrSwing := true } ∧
    exec (.setswing true) s = .next { s with swing := .vertical, wrSwing := true }

/-- SETTEMP stores every 8-bit operand unclamped, sets WR_TEMP, and nothing else (R124). -/
def Obligations.SetTempStoresOperand : Prop :=
  ∀ (s : State) (t : Byte), isStuck s = false →
    exec (.settemp t) s = .next { s with temp := t, wrTemp := true }

/-! ## The State Codec -/

/-- `encode_mode` and `decode_mode` by their tables; no code decodes to Off (R73, R74, R63). -/
def Obligations.ModeCodesFollowTable : Prop :=
  (encodeMode .cool = 0x2#4 ∧ encodeMode .dry = 0x1#4 ∧ encodeMode .heat = 0x8#4 ∧ encodeMode .heatCool = 0xA#4 ∧
    encodeMode .fanOnly = 0x4#4 ∧ encodeMode .off = 0x4#4) ∧
  ∀ b : Byte,
    decodeMode b =
      (if b &&& 0x0F#8 = 0x02#8 then .cool else if b &&& 0x0F#8 = 0x01#8 then .dry
      else if b &&& 0x0F#8 = 0x08#8 then .heat else if b &&& 0x0F#8 = 0x0A#8 then .heatCool else .fanOnly) ∧
    decodeMode b ≠ .off

/-- `encode_fan_speed` by its table, which never gives FAN_STRONG (R75), and `decode_fan_speed` by its chain of tests on
the high nibble (R76). -/
def Obligations.FanCodesFollowChain : Prop :=
  (∀ c : Config, encodeFanSpeed c .auto = c.fanAuto ∧ encodeFanSpeed c .low = c.fanLow ∧
    encodeFanSpeed c .medium = 0x4#4 ∧ encodeFanSpeed c .high = c.fanHigh ∧ encodeFanSpeed c .quiet = c.fanQuiet) ∧
  (∀ (c : Config) (f : FanSpeed), admissible c = true → encodeFanSpeed c f ≠ c.fanStrong) ∧
  ∀ (c : Config) (b : Byte),
    decodeFanSpeed c b =
      (if (b >>> 4).toNat = c.fanAuto.toNat then .auto else if (b >>> 4).toNat = c.fanLow.toNat then .low
      else if (b >>> 4).toNat = 0x4 then .medium else if (b >>> 4).toNat = c.fanHigh.toNat then .high
      else if (b >>> 4).toNat = c.fanStrong.toNat then .high
      else if (b >>> 4).toNat = c.fanQuiet.toNat then .quiet else .auto)

/-- Round trips of mode, fan speed and swing; the Strong code decodes to High (R87). -/
def Obligations.CodecRoundTrips : Prop :=
  (∀ m : Mode, m ≠ .off → ∀ fan : Nibble, decodeMode (fan ++ encodeMode m) = m) ∧
  encodeMode .fanOnly = 0x4#4 ∧
  (∀ c : Config, admissible c = true → ∀ mode : Nibble,
    (∀ f : FanSpeed, decodeFanSpeed c (encodeFanSpeed c f ++ mode) = f) ∧
    decodeFanSpeed c (c.fanStrong ++ mode) = .high) ∧
  (∀ w : Swing, decodeFanSwing (encodeFanSwing w) = w) ∧
  encodeFanSwing .off = 0x00#8 ∧ encodeFanSwing .vertical = 0x01#8

/-- BCD round trip in both directions (R86). -/
def Obligations.BcdRoundTrip : Prop :=
  ∀ (c : Config) (draw : Byte),
    (∀ v : Nat, v ≤ 99 → ∃ b, encodeBcd v = some b ∧ (decodeBcd c draw b).toNat = v) ∧
    (∀ b : Byte, highNibble b ≤ 9 → lowNibble b ≤ 9 → encodeBcd (decodeBcd c draw b).toNat = some b)

/-- BCD by its digits: the tens in the high nibble and the units in the low one, both ways (R59, R79, R80), and which
nibble is which (R45). -/
def Obligations.BcdDigitFormulas : Prop :=
  (∀ v : Nat, v ≤ 99 →
    encodeBcd v = some (bcdByte v) ∧ (bcdByte v).toNat / 16 = v / 10 ∧ (bcdByte v).toNat % 16 = v % 10) ∧
  (∀ (c : Config) (draw b : Byte), (b >>> 4).toNat ≤ 9 → (b &&& 0x0F#8).toNat ≤ 9 →
    (decodeBcd c draw b).toNat = 10 * (b >>> 4).toNat + (b &&& 0x0F#8).toNat) ∧
  ∀ b : Byte, highNibble b = b.toNat / 16 ∧ lowNibble b = b.toNat % 16

/-- BCD outside its domain: above 99 there is no encoding, and a malformed byte decodes to the draw or, under the
other policy, to the source's expression (R79, R80; the draw is a free value). -/
def Obligations.BcdOutsideDomain : Prop :=
  (∀ v : Nat, 99 < v → encodeBcd v = none) ∧
  ∀ (c : Config) (draw b : Byte), (9 < highNibble b ∨ 9 < lowNibble b) →
    (c.bcdMalformed = .draw → decodeBcd c draw b = draw) ∧
    (c.bcdMalformed = .formula → (decodeBcd c draw b).toNat = 10 * highNibble b + lowNibble b)

/-- The encoded temperature is the BCD of TEMP clamped to [16, 30], for every value of TEMP (R81, R82). -/
def Obligations.EncodedTemperatureIsClamped : Prop :=
  ∀ t : Byte,
    encodeBcd (if t.toNat < 16 then 16 else if 30 < t.toNat then 30 else t.toNat) = some (encodeTemperature t)

/-- The power toggle: POWER_ON follows MODE, TOGGLE_BIT is returned exactly where it flips, and a second call returns
0 and flips nothing (R84). -/
def Obligations.PowerToggleFollowsMode : Prop :=
  ∀ (c : Config) (m : Mode) (p : Bool),
    (encodePowerToggle c m p).powerOn = decide (m ≠ .off) ∧
    (encodePowerToggle c m p).bit = (if decide (m ≠ .off) = p then 0#8 else c.toggleBit) ∧
    encodePowerToggle c m (encodePowerToggle c m p).powerOn = { bit := 0#8, powerOn := decide (m ≠ .off) }

/-! ## Frames and checksums -/

/-- Both nibbles of a byte, added (R88). -/
def Sys2Proof.nibblesOf (b : Byte) : Nat := b.toNat / 16 + b.toNat % 16

/-- What the checksum nibble of a State Frame must be: the nibbles of bytes 0 to 6 and the low nibble of byte 7, added
modulo 16 (R89, R90). -/
def Sys2Proof.expectedChecksum (f : Frame) : Nat :=
  (nibblesOf f.b0 + nibblesOf f.b1 + nibblesOf f.b2 + nibblesOf f.b3 + nibblesOf f.b4 + nibblesOf f.b5
    + nibblesOf f.b6 + f.b7.toNat % 16) % 16

/-- The bytes of a built State Frame, for a toggle bit in the low nibble (R56, R57, R91), its checksum nibble written out
in the bytes (R88, R89), and what the validator tests of any frame (R90). -/
def Obligations.BuiltStateFrameBytes : Prop :=
  (∀ f : Frame, stateChecksumOk f = true ↔ f.b7.toNat / 16 = expectedChecksum f) ∧
  ∀ (c : Config) (m : Mode) (f : FanSpeed) (w : Swing) (t mb hb toggle : Byte), toggle &&& 0xF0#8 = 0#8 →
    let sf := buildStateFrame c m f w t mb hb toggle
    sf.b0 = 0x16#8 ∧ sf.b1 = (encodeFanSpeed c f ++ encodeMode m : BitVec 8) ∧ sf.b2 = mb ∧ sf.b3 = hb ∧
    sf.b4 = 0x13#8 ∧ sf.b5 = 0x04#8 ∧ sf.b6 = encodeTemperature t ∧
    sf.b7 &&& 0x0F#8 = toggle ||| 0x04#8 ||| encodeFanSwing w ∧
    sf.b7.toNat / 16 = expectedChecksum sf

/-- Every State Frame the builder makes validates (R95). -/
def Obligations.BuiltStateFrameValidates : Prop :=
  ∀ (c : Config) (m : Mode) (f : FanSpeed) (w : Swing) (t mb hb toggle : Byte), admissible c = true →
    (toggle = 0#8 ∨ toggle = c.toggleBit) → stateChecksumOk (buildStateFrame c m f w t mb hb toggle) = true

/-- Every single-bit error in a valid State Frame is detected by the checksum (R96, first sentence). -/
def Obligations.SingleBitErrorIsDetected : Prop :=
  ∀ (f : Frame) (k : Nat), stateChecksumOk f = true → k < 64 →
    stateChecksumOk (frameOfWord (wordOfFrame f ^^^ (1#64 <<< k))) = false

/-- The bytes of a built Control Frame (R61, R92, R93). -/
def Obligations.BuiltControlFrameBytes : Prop :=
  ∀ (c : Config) (ceiling wall : Bool),
    let leds := (if ceiling then c.ceilLedMask else 0#8) ||| (if wall then c.wallLedMask else 0#8)
    buildControlFrame c ceiling wall
      = { b0 := 0xA1#8, b1 := leds, b2 := 0#8, b3 := 0#8, b4 := 0#8, b5 := 0#8, b6 := 0#8, b7 := 0xA1#8 + leds }

/-! ## The serializer -/

/-- The item of one data bit (R97, R98). -/
def Sys2Proof.dataItem (c : Config) (x : Bool) : Item :=
  match c.spaceVariant, x with
  | .a, true => { mark := c.bitMark, space := c.longSpace }
  | .a, false => { mark := c.bitMark, space := c.shortSpace }
  | .b, true => { mark := c.bitMark, space := c.shortSpace }
  | .b, false => { mark := c.bitMark, space := c.longSpace }

/-- Bit j of byte i of a frame: bit 8i + j of its little-endian view (R44). -/
def Sys2Proof.frameBit (f : Frame) (i j : Nat) : Bool := (wordOfFrame f).getLsbD (8 * i + j)

/-- The transmitted waveform item by item, with d = DECOY_COUNT (R66); in the spec's parameter set d is 2 and GAP_MARK is
BIT_MARK (R6). Its first 67 items after the decoys are the waveform a frame is presented with (R67). -/
def Obligations.TransmittedWaveformLayout : Prop :=
  (∀ (dm ds : Duration) (mc mw : Byte), (configWith dm ds mc mw).decoyCount = 2 ∧
    (configWith dm ds mc mw).gapMark = (configWith dm ds mc mw).bitMark) ∧
  ∀ (c : Config) (sf cf : Frame), let d := c.decoyCount; let items := serialize c sf cf
    items.length = d + 141 ∧
    (∀ k, k < d → items[k]? = some { mark := c.decoyMark, space := c.decoySpace }) ∧
    items[d]? = some { mark := c.hdr1Mark, space := c.hdr1Space } ∧
    items[d + 1]? = some { mark := c.hdr1Mark, space := c.hdr1Space } ∧
    items[d + 2]? = some { mark := c.hdr2Mark, space := c.hdr2Space } ∧
    (∀ i j, i < 8 → j < 8 → items[d + 3 + 8 * i + j]? = some (dataItem c (frameBit sf i j))) ∧
    items[d + 67]? = some { mark := c.gapMark, space := c.gapSpace } ∧
    (∀ i j, i < 8 → j < 8 → items[d + 68 + 8 * i + j]? = some (dataItem c (frameBit cf i j))) ∧
    (∀ j, j < 8 → items[d + 132 + j]? = some (dataItem c false)) ∧
    items[d + 140]? = some { mark := c.hdr2Mark, space := c.hdr2Space } ∧
    (items.drop d).take 67 = frameWaveform c sf

/-- The two views of a frame agree: bit 8i + j of the 64-bit view is bit j of byte i, and neither view loses a bit
(R43, R44). -/
def Obligations.FrameViewsAgree : Prop :=
  (∀ (f : Frame) (i j : Nat), i < 8 → j < 8 →
    ∃ b, [f.b0, f.b1, f.b2, f.b3, f.b4, f.b5, f.b6, f.b7][i]? = some b ∧ (wordOfFrame f).getLsbD (8 * i + j) = b.getLsbD j) ∧
  (∀ f : Frame, frameOfWord (wordOfFrame f) = f) ∧ ∀ w : FrameWord, wordOfFrame (frameOfWord w) = w

/-- How many of a frame's 64 bits are 1. -/
def Sys2Proof.oneBits (f : Frame) : Nat := ((List.range 64).filter fun k => (wordOfFrame f).getLsbD k).length

/-- The on-air length of a transmitted waveform, in general and for the default timing of variants A and B (R107). -/
def Obligations.OnAirLength : Prop :=
  (∀ (c : Config) (sf cf : Frame), let n1 := oneBits sf + oneBits cf
    onAirTime (serialize c sf cf)
      = c.decoyCount * (c.decoyMark.toNat + c.decoySpace.toNat) + 2 * (c.hdr1Mark.toNat + c.hdr1Space.toNat)
        + 2 * (c.hdr2Mark.toNat + c.hdr2Space.toNat) + (c.gapMark.toNat + c.gapSpace.toNat)
        + 136 * c.bitMark.toNat + (oneSpace c).toNat * n1 + (zeroSpace c).toNat * (136 - n1)) ∧
  ∀ (dm ds : Duration) (mc mw : Byte) (sf cf : Frame), let n1 := oneBits sf + oneBits cf
    onAirTime (serialize (configWith dm ds mc mw) sf cf) = 2 * (dm.toNat + ds.toNat) + 174780 + 560 * n1 ∧
    onAirTime (serialize { configWith dm ds mc mw with spaceVariant := .b } sf cf)
      = 2 * (dm.toNat + ds.toNat) + (250940 - 560 * n1)

/-! ## TRANSMIT -/

/-- What TRANSMIT samples from the clock inputs: 0 and 0 while CLK_VALID is 0 (R125, R142). -/
def Obligations.ClockSample : Prop :=
  ∀ (s : State) (h m : Byte),
    sampleClock { s with clk := .driven true h m } = (h, m) ∧
    sampleClock { s with clk := .driven false h m } = (0#8, 0#8)

/-- F_UNINIT: TRANSMIT with a register unwritten records the fault whatever the clock holds, and changes nothing else;
and no other instruction, and no other TRANSMIT, sets FAULT (R132, R135). -/
def Obligations.UninitIsTheOnlyFault : Prop :=
  (∀ (s : State) (c w : Bool), isStuck s = false →
    (s.wrFan = false ∨ s.wrSwing = false ∨ s.wrTemp = false) →
      exec (.transmit c w) s = .next { s with
        status := { s.status with
          fault := true, reason := if s.status.reason = .noReason then .uninit else s.status.reason } }) ∧
  ∀ (i : Instr) (s t : State), exec i s = .next t → s.status.fault = false → t.status.fault = true →
    (∃ c w, i = .transmit c w) ∧ (s.wrFan = false ∨ s.wrSwing = false ∨ s.wrTemp = false)

/-- REF_BCD_RANGE: a sampled hour or minute above 99 is refused before any effect (R125, R133). -/
def Obligations.ClockAboveNinetyNineIsRefused : Prop :=
  ∀ (s : State) (c w : Bool), isStuck s = false → s.wrFan = true → s.wrSwing = true → s.wrTemp = true →
    (99 < (sampleClock s).1.toNat ∨ 99 < (sampleClock s).2.toNat) →
      exec (.transmit c w) s = .next (withRefusal .bcdRange s)

/-- The conditions under which a TRANSMIT passes its checks (R125, R151). -/
def Sys2Proof.isReady (s : State) : Prop :=
  isStuck s = false ∧ s.wrFan = true ∧ s.wrSwing = true ∧ s.wrTemp = true ∧
  (sampleClock s).1.toNat ≤ 99 ∧ (sampleClock s).2.toNat ≤ 99

/-- SAVED_MODE after step 1 of TRANSMIT (R125). -/
def Sys2Proof.refreshedMode (s : State) : Mode := if s.mode = .off then s.savedMode else s.mode

/-- The toggle bit a TRANSMIT in this state carries (R84). -/
def Sys2Proof.carriedToggle (s : State) : Byte := if decide (s.mode ≠ .off) = s.powerOn then 0#8 else s.cfg.toggleBit

/-- The State Frame a TRANSMIT in this state sends: SAVED_MODE refreshed, the clock in BCD, the toggle (R125, R91). -/
def Sys2Proof.sentFrame (s : State) : Frame :=
  buildStateFrame s.cfg (refreshedMode s) s.fan s.swing s.temp (bcdByte (sampleClock s).2.toNat)
    (bcdByte (sampleClock s).1.toNat) (carriedToggle s)

/-- TRANSMIT completes: SAVED_MODE refreshed, POWER_ON made to agree with MODE, one TX event with the waveform of the
two frames; every other register, STATUS, RXW and the inputs unchanged (R125, R106). -/
def Obligations.TransmitSendsBothFrames : Prop :=
  ∀ (s : State) (c w : Bool), isReady s → ∃ sf cf n,
    exec (.transmit c w) s = .next { s with
      savedMode := refreshedMode s
      powerOn := decide (s.mode ≠ .off)
      evt := s.evt ++ [.tx s.cfg.carrierHz (serialize s.cfg (sentFrame s) (buildControlFrame s.cfg c w))]
      sf := sf, cf := cf, draws := n }

/-- A repeated TRANSMIT with unchanged MODE carries no toggle and leaves POWER_ON as it is (R154). -/
def Obligations.RepeatedTransmitCarriesNoToggle : Prop :=
  ∀ (s : State) (c w c' w' : Bool) (v : Bool) (h m : Byte), admissible s.cfg = true → isReady s →
    s.clk = .driven v h m → ∃ t u f,
      exec (.transmit c w) s = .next t ∧ exec (.transmit c' w') t = .next u ∧ u.powerOn = t.powerOn ∧
      u.evt = t.evt ++ [.tx s.cfg.carrierHz (serialize s.cfg f (buildControlFrame s.cfg c' w'))] ∧
      f.b7 &&& s.cfg.toggleBit = 0#8

/-- LED requests change nothing but the Control Frame of the TX event: where TRANSMIT 0, 0 sends nothing, neither does
TRANSMIT c, w, and the states are equal; where it sends, both send the same State Frame on the same carrier, each beside
the Control Frame of its own request (R125, R93). That the scratch buffers and the draw counter of the two next states
agree too is the model's numbering of draws (notes/assumptions/6.md, 7.md), not the spec's: R36 leaves the buffers
unspecified. -/
def Obligations.LedRequestsChangeOnlyTheControlFrame : Prop :=
  ∀ (s t : State) (c w : Bool), exec (.transmit false false) s = .next t →
    (t.evt = s.evt ∧ exec (.transmit c w) s = .next t) ∨
    (t.evt = s.evt ++
        [.tx s.cfg.carrierHz (serialize s.cfg (sentFrame s) (buildControlFrame s.cfg false false))] ∧
      exec (.transmit c w) s = .next { t with
        evt := s.evt ++ [.tx s.cfg.carrierHz (serialize s.cfg (sentFrame s) (buildControlFrame s.cfg c w))] })

/-- While CLK_VALID is 0 the other clock inputs make no difference to TRANSMIT (R33, R142). That the scratch buffers and
the draw counter of the two next states agree too is the model's numbering of draws (notes/assumptions/6.md, 7.md), not
the spec's: R36 leaves the buffers unspecified. -/
def Obligations.InvalidClockMakesNoDifference : Prop :=
  ∀ (s t : State) (c w : Bool) (h m h' m' : Byte),
    exec (.transmit c w) { s with clk := .driven false h m } = .next t →
      exec (.transmit c w) { s with clk := .driven false h' m' } = .next { t with clk := .driven false h' m' }

/-! ## RECEIVE -/

/-- A received duration lies in the tolerance window of a nominal one, both bounds included (R109). -/
def Sys2Proof.fits (c : Config) (v nominal : Duration) : Prop :=
  (100 - c.tolPct) * nominal.toNat / 100 ≤ v.toNat ∧ v.toNat ≤ (100 + c.tolPct) * nominal.toNat / 100

/-- `read_bit`: the ONE window first, then the ZERO window, mark and space both checked (R110, R111). -/
def Obligations.ReadBitTestsWindows : Prop :=
  ∀ (c : Config) (it : Item),
    (fits c it.mark c.bitMark → fits c it.space (oneSpace c) → readBit c it = some true) ∧
    (fits c it.mark c.bitMark → ¬ fits c it.space (oneSpace c) → fits c it.space (zeroSpace c) →
      readBit c it = some false) ∧
    (¬ fits c it.mark c.bitMark ∨ (¬ fits c it.space (oneSpace c) ∧ ¬ fits c it.space (zeroSpace c)) →
      readBit c it = none)

/-- With admissible parameters a nominal data item reads as the bit it carries (R7, R111, R119). -/
def Obligations.NominalItemReadsAsItsBit : Prop :=
  ∀ (c : Config) (x : Bool), admissible c = true → readBit c (dataItem c x) = some x

/-- Item `k` is there and its mark and its space both lie in the windows of a nominal mark and space (R110). -/
def Sys2Proof.itemFits (c : Config) (rxw : List Item) (k : Nat) (mark space : Duration) : Prop :=
  ∃ it, rxw[k]? = some it ∧ fits c it.mark mark ∧ fits c it.space space

/-- Items 0 and 1 fit header-1, item 2 fits header-2, and items 3 to 66 read as the bits of `f`, whose byte 0 is 0x16
(R67). -/
def Sys2Proof.carriesFrame (c : Config) (rxw : List Item) (f : Frame) : Prop :=
  itemFits c rxw 0 c.hdr1Mark c.hdr1Space ∧ itemFits c rxw 1 c.hdr1Mark c.hdr1Space ∧
  itemFits c rxw 2 c.hdr2Mark c.hdr2Space ∧ f.b0 = 0x16#8 ∧
  ∀ i j, i < 8 → j < 8 → ∃ it, rxw[3 + 8 * i + j]? = some it ∧ readBit c it = some (frameBit f i j)

/-- `receive_decode` says OK exactly for a waveform that carries a valid frame, CKFAIL exactly for one that carries an
invalid frame, NOMATCH for every other (R67, R112, R136). -/
def Obligations.ReceiveDecodeAcceptsExactlyFrames : Prop :=
  ∀ (c : Config) (rxw : List Item),
    (∀ f, receiveDecode c rxw = .ok f ↔ carriesFrame c rxw f ∧ stateChecksumOk f = true) ∧
    (receiveDecode c rxw = .ckFail ↔ ∃ f, carriesFrame c rxw f ∧ stateChecksumOk f = false) ∧
    (receiveDecode c rxw = .noMatch ↔ ∀ f, ¬ carriesFrame c rxw f)

/-- Items from 67 on cannot change the outcome (R116). -/
def Obligations.ItemsFromSixtySevenAreIgnored : Prop :=
  ∀ (c : Config) (rxw rxw' : List Item), rxw.take 67 = rxw'.take 67 → receiveDecode c rxw = receiveDecode c rxw'

/-- NOMATCH sets LAST_RX and appends nothing; CKFAIL sets LAST_RX and appends the warning; no register and no written
bit changes, and RXW stays (R113, R115, R117). -/
def Obligations.RejectedReceiveChangesNoRegister : Prop :=
  ∀ s : State, isStuck s = false →
    (receiveDecode s.cfg s.rxw = .noMatch → ∃ sf cf n,
      exec .receive s = .next { s with
        status := { s.status with lastRx := .noMatch }, sf := sf, cf := cf, draws := n }) ∧
    (receiveDecode s.cfg s.rxw = .ckFail → ∃ sf cf n,
      exec .receive s = .next { s with
        status := { s.status with lastRx := .ckFail }, evt := s.evt ++ [.warnChecksum]
        sf := sf, cf := cf, draws := n })

/-- The state after the receive transition on frame `f`, with `draw` for a malformed temperature byte and the scratch
and draw counter as given (R113, R114). -/
def Sys2Proof.afterTransition (f : Frame) (draw : Byte) (sf cf : Frame) (n : Nat) (s : State) : State :=
  let power := if f.b7 &&& s.cfg.toggleBit ≠ 0#8 then !s.powerOn else s.powerOn
  { s with
    powerOn := power
    savedMode := decodeMode f.b1
    mode := if power then decodeMode f.b1 else .off
    fan := decodeFanSpeed s.cfg f.b1
    swing := if f.b7 &&& 0x01#8 ≠ 0#8 then .vertical else .off
    temp := decodeBcd s.cfg draw f.b6
    wrFan := true, wrSwing := true, wrTemp := true
    status := { s.status with lastRx := .ok }
    evt := s.evt ++ [.notify]
    sf := sf, cf := cf, draws := n }

/-- OK: the receive transition and one NOTIFY; a malformed temperature byte gives a free value under the policy `draw`
(R113, R114). -/
def Obligations.AcceptedReceiveMakesTransition : Prop :=
  ∀ (s : State) (f : Frame), isStuck s = false → receiveDecode s.cfg s.rxw = .ok f → ∃ draw sf cf n,
    exec .receive s = .next (afterTransition f draw sf cf n s)

/-- The self-reception guard: a waveform that begins with a decoy item is NOMATCH, and so is every waveform the block
transmits, captured whole (R118). -/
def Obligations.DecoyGuardsAgainstSelfReception : Prop :=
  ∀ c : Config, admissible c = true →
    (∀ rxw : List Item, rxw[0]? = some { mark := c.decoyMark, space := c.decoySpace } →
      receiveDecode c rxw = .noMatch) ∧
    (0 < c.decoyCount → ∀ sf cf : Frame, receiveDecode c (serialize c sf cf) = .noMatch)

/-- Without its decoy items a transmitted waveform decodes OK to the State Frame sent: serializer and receive decoder
agree on every bit (R119). -/
def Obligations.TransmittedFrameIsReceived : Prop :=
  ∀ (c : Config) (sf cf : Frame), admissible c = true → sf.b0 = 0x16#8 → stateChecksumOk sf = true →
    receiveDecode c ((serialize c sf cf).drop c.decoyCount) = .ok sf

/-- TRANSMIT, then RECEIVE of that waveform without its decoy: the block takes back its own settings, TEMP clamped, and
flips POWER_ON back to what it was before (R119, R156). -/
def Obligations.OwnTransmissionReceivedUndoesToggle : Prop :=
  ∀ (s : State) (c w : Bool), admissible s.cfg = true → isReady s → s.savedMode ≠ .off → ∃ t items u,
    exec (.transmit c w) s = .next t ∧ t.evt = s.evt ++ [.tx s.cfg.carrierHz items] ∧
    exec .receive { t with rxw := items.drop s.cfg.decoyCount } = .next u ∧
    u.powerOn = s.powerOn ∧ u.savedMode = t.savedMode ∧ u.mode = (if s.powerOn then t.savedMode else .off) ∧
    u.fan = s.fan ∧ u.swing = s.swing ∧ 
    u.temp.toNat = (if s.temp.toNat < 16 then 16 else if 30 < s.temp.toNat then 30 else s.temp.toNat) ∧
    u.evt = t.evt ++ [.notify] ∧ u.status = { s.status with lastRx := .ok }

/-- A State Frame sent with the other space variant reads inverted and is NOMATCH (R158). -/
def Obligations.WrongVariantIsNoMatch : Prop :=
  ∀ (c c' : Config) (f : Frame), admissible c = true → f.b0 = 0x16#8 →
    c' = { c with spaceVariant := if c.spaceVariant = .a then .b else .a } →
      receiveDecode c (frameWaveform c' f) = .noMatch

/-! ## Frames presented as instructions (the model's reading, notes/assumptions/16.md, 17.md) -/

/-- A presented State Frame is received: with a right checksum the transition, with a wrong one CKFAIL; RXW holds its
waveform (R112, R113, R114, R128). -/
def Obligations.PresentedStateFrameIsReceived : Prop :=
  ∀ (s : State) (m f : Nibble) (n h b4 b5 t : Byte) (g k : Nibble), isStuck s = false → admissible s.cfg = true →
    let frame : Frame :=
      { b0 := 0x16#8, b1 := (f ++ m : BitVec 8), b2 := n, b3 := h, b4 := b4, b5 := b5, b6 := t
        b7 := (k ++ g : BitVec 8) }
    let s' : State := { s with rxw := frameWaveform s.cfg frame }
    ∃ draw sf cf d, exec (.stateFrame m f n h b4 b5 t g k) s = .next
      (if stateChecksumOk frame = true then afterTransition frame draw sf cf d s'
      else { s' with
        status := { s.status with lastRx := .ckFail }, evt := s.evt ++ [.warnChecksum]
        sf := sf, cf := cf, draws := d })

/-- A presented Control Frame is never decoded: byte 0 is not 0x16, so the outcome is NOMATCH (R68, R112). -/
def Obligations.PresentedControlFrameIsNoMatch : Prop :=
  ∀ (s : State) (l k : Byte), isStuck s = false → admissible s.cfg = true → ∃ sf cf d,
    exec (.controlFrame l k) s = .next { s with
      rxw := frameWaveform s.cfg
        { b0 := 0xA1#8, b1 := l, b2 := 0#8, b3 := 0#8, b4 := 0#8, b5 := 0#8, b6 := 0#8, b7 := k }
      status := { s.status with lastRx := .noMatch }, sf := sf, cf := cf, draws := d }

/-! ## The whole machine -/

/-- The bits of STATUS (R31, R131). -/
def Obligations.StatusWordFields : Prop :=
  ∀ st : Status,
    (statusWord st).extractLsb' 0 2
      = (match st.lastRx with | .noReceive => 0#2 | .ok => 1#2 | .noMatch => 2#2 | .ckFail => 3#2) ∧
    ((statusWord st).getLsbD 2 = true ↔ st.lastRx = .ok) ∧
    (statusWord st).getLsbD 3 = st.fault ∧ (statusWord st).getLsbD 4 = st.refused ∧
    (statusWord st).extractLsb' 5 3
      = (match st.reason with | .noReason => 0#3 | .uninit => 1#3 | .encoding => 2#3 | .bcdRange => 3#3)

/-- The 3-bit encoding of a mode, written out (R17). -/
def Sys2Proof.modeCode (m : Mode) : BitVec 3 :=
  match m with
  | .off => 0#3
  | .cool => 1#3
  | .dry => 2#3
  | .heat => 3#3
  | .heatCool => 4#3
  | .fanOnly => 5#3

/-- The 3-bit encoding of a fan speed, written out (R21). -/
def Sys2Proof.fanCode (f : FanSpeed) : BitVec 3 :=
  match f with
  | .auto => 0#3
  | .low => 1#3
  | .medium => 2#3
  | .high => 3#3
  | .quiet => 4#3

/-- The read port answers absent for an unwritten register and its value for a written one (R32), in the encodings of
R17, R21 and R23. -/
def Obligations.ReadPortHidesUnwritten : Prop :=
  ∀ s : State,
    (readPort s).fan = (if s.wrFan then some (fanCode s.fan) else none) ∧
    (readPort s).swing = (if s.wrSwing then some (match s.swing with | .off => 0#1 | .vertical => 1#1) else none) ∧
    (readPort s).temp = (if s.wrTemp then some s.temp else none) ∧
    (readPort s).mode = modeCode s.mode ∧ (readPort s).savedMode = modeCode s.savedMode ∧
    (readPort s).powerOn = s.powerOn ∧ (readPort s).wrFan = s.wrFan ∧ (readPort s).wrSwing = s.wrSwing ∧
    (readPort s).wrTemp = s.wrTemp ∧ (readPort s).status = statusWord s.status

/-- What reset leaves (R148). -/
def Sys2Proof.isResetState (s : State) : Prop :=
  s.mode = .off ∧ s.savedMode ≠ .off ∧ s.wrFan = false ∧ s.wrSwing = false ∧ s.wrTemp = false ∧ s.powerOn = false ∧
  statusWord s.status = 0#8 ∧ s.evt = [] ∧ s.rxw = []

/-- Reset, at the start and asserted later from any state, leaves the values of R148 and the parameters as they are;
and it is the only event that clears FAULT, REFUSED or REASON (R148). That a reset comes in through the list of pending
inputs and leaves the rest of that list is the model's own (notes/assumptions/2.md, 21.md). -/
def Obligations.ResetLeavesTheResetState : Prop :=
  isResetState State.reset ∧
  (∀ (s : State) (rest : List Input), s.inputs = .reset :: rest →
    ∃ t, step s = .next t ∧ isResetState t ∧ t.cfg = s.cfg ∧ t.inputs = rest) ∧
  ∀ s t : State, step s = .next t → s.inputs.head? ≠ some .reset →
    (s.status.fault = true → t.status.fault = true) ∧ (s.status.refused = true → t.status.refused = true) ∧
    (s.status.reason ≠ .noReason → t.status.reason = s.status.reason)

/-- FAN, SWING and TEMP may be written in any order; after that no TRANSMIT faults (R151). -/
def Sys2Proof.execAll : List Instr → State → Option State
  | [], s => some s
  | i :: rest, s =>
    match exec i s with
    | .next t => execAll rest t
    | .fault _ => none
    | .refused _ => none

/-- The boot requirement: SETFAN, SETSWING and SETTEMP in any order make a TRANSMIT that does not fault (R151). -/
def Obligations.BootSequenceMakesTransmitReady : Prop :=
  ∀ (s : State) (f : BitVec 3) (v : Bool) (t : Byte) (is : List Instr), isStuck s = false → f.toNat ≤ 4 →
    is.Perm [.setfan f, .setswing v, .settemp t] → ∃ u,
      execAll is s = some u ∧ u.temp = t ∧ u.swing = (if v then .vertical else .off) ∧ fanCode u.fan = f ∧
      ∀ c w, ∃ x, exec (.transmit c w) u = .next x ∧ x.status.fault = false

/-- Nothing but reset clears a written bit or removes an event, and nothing at all writes the parameters
(R26, R35, R39). -/
def Obligations.OnlyResetClears : Prop :=
  ∀ s t : State, step s = .next t →
    t.cfg = s.cfg ∧
    (s.inputs.head? ≠ some .reset →
      s.evt <+: t.evt ∧ (s.wrFan = true → t.wrFan = true) ∧ (s.wrSwing = true → t.wrSwing = true) ∧
      (s.wrTemp = true → t.wrTemp = true))

/-- No command but RECEIVE, and a frame presented to it, changes LAST_RX or appends NOTIFY or WARN_CHECKSUM; no command
but TRANSMIT appends TX (R31, R35). -/
def Obligations.OnlyReceiveReports : Prop :=
  ∀ (i : Instr) (s t : State), exec i s = .next t →
    (match i with
    | .setmode _ => t.status.lastRx = s.status.lastRx ∧ t.evt = s.evt
    | .setfan _ => t.status.lastRx = s.status.lastRx ∧ t.evt = s.evt
    | .setswing _ => t.status.lastRx = s.status.lastRx ∧ t.evt = s.evt
    | .settemp _ => t.status.lastRx = s.status.lastRx ∧ t.evt = s.evt
    | .transmit _ _ => t.status.lastRx = s.status.lastRx ∧
        (t.evt = s.evt ∨ ∃ hz items, t.evt = s.evt ++ [.tx hz items])
    | .receive => t.evt = s.evt ∨ t.evt = s.evt ++ [.notify] ∨ t.evt = s.evt ++ [.warnChecksum]
    | .stateFrame _ _ _ _ _ _ _ _ _ =>
        t.evt = s.evt ∨ t.evt = s.evt ++ [.notify] ∨ t.evt = s.evt ++ [.warnChecksum]
    | .controlFrame _ _ => t.evt = s.evt ∨ t.evt = s.evt ++ [.notify] ∨ t.evt = s.evt ++ [.warnChecksum])

/-- POWER_ON is never set directly: between resets a step that changes it flips it, together with one TX of a frame
that carries the toggle bit or one NOTIFY of a received frame that does (R25, R84, R114). -/
def Obligations.PowerOnChangesOnlyWithToggle : Prop :=
  ∀ s t : State, admissible s.cfg = true → step s = .next t → s.inputs.head? ≠ some .reset →
    t.powerOn ≠ s.powerOn →
      (∃ sf cf, t.evt = s.evt ++ [.tx s.cfg.carrierHz (serialize s.cfg sf cf)] ∧ sf.b7 &&& s.cfg.toggleBit ≠ 0#8) ∨
      (t.evt = s.evt ++ [.notify] ∧ ∃ f, receiveDecode t.cfg t.rxw = .ok f ∧ f.b7 &&& s.cfg.toggleBit ≠ 0#8)

/-- SAVED_MODE is never Off: not at reset, and no step makes it so (R20). -/
def Obligations.SavedModeIsNeverOff : Prop :=
  State.reset.savedMode ≠ .off ∧
  ∀ s t : State, s.savedMode ≠ .off → step s = .next t → t.savedMode ≠ .off

/-- A byte with exactly one bit set, written out. -/
def Sys2Proof.isSingleBit (b : Byte) : Prop :=
  b = 0x01#8 ∨ b = 0x02#8 ∨ b = 0x04#8 ∨ b = 0x08#8 ∨ b = 0x10#8 ∨ b = 0x20#8 ∨ b = 0x40#8 ∨ b = 0x80#8

/-- Admissible parameters are those that meet the constraints: TOL_PCT at most 99, no duration in both data-space windows,
the decoy item not in the header-1 window (R7), TOGGLE_BIT one of two, six distinct fan codes, two distinct single-bit
LED masks (R8). -/
def Obligations.AdmissibleParametersMeetConstraints : Prop :=
  ∀ c : Config, admissible c = true ↔
    c.tolPct ≤ 99 ∧ (∀ v : Duration, ¬ (fits c v c.longSpace ∧ fits c v c.shortSpace)) ∧
    ¬ (fits c c.decoyMark c.hdr1Mark ∧ fits c c.decoySpace c.hdr1Space) ∧
    (c.toggleBit = 0x02#8 ∨ c.toggleBit = 0x08#8) ∧
    [c.fanAuto, c.fanLow, 0x4#4, c.fanHigh, c.fanQuiet, c.fanStrong].Nodup ∧
    isSingleBit c.ceilLedMask ∧ isSingleBit c.wallLedMask ∧ c.ceilLedMask ≠ c.wallLedMask

/-- The invariant holds at reset, and the parameters reset takes, the model's free values for the OPEN ones among them,
are admissible (R7, R8, R148; notes/assumptions/9.md, 10.md). -/
def Obligations.InvariantHoldsAtReset : Prop := StateInv State.reset ∧ admissible State.reset.cfg = true

/-- Every step keeps the invariant. -/
def Obligations.StepKeepsInvariant : Prop := ∀ s t : State, StateInv s → step s = .next t → StateInv t

/-! ## Assembler -/

/-- The pseudo-instructions assemble to their words, mnemonics in any case, comments dropped (R127, R128; the lexical
details are the model's, notes/assumptions/23.md). -/
def Obligations.PseudoInstructionsAssemble : Prop :=
  assembleLine "BROADCAST".toList = .instr (.transmit false false) ∧ encode (.transmit false false) = 0x5000 ∧
  assembleLine "LED_CEILING".toList = .instr (.transmit true false) ∧ encode (.transmit true false) = 0x5001 ∧
  assembleLine "led_wall ; wall".toList = .instr (.transmit false true) ∧ encode (.transmit false true) = 0x5002 ∧
  assembleLine "ON_WAVEFORM".toList = .instr .receive ∧ encode .receive = 0x6000 ∧
  assembleLine "SetTemp 0x23".toList = .instr (.settemp 35#8) ∧ encode (.settemp 35#8) = 0x4023

/-- Every operand form of R127: a mode, fan speed or swing by its name or its number, a temperature by every decimal and
hexadecimal number, TRANSMIT's two bits, RECEIVE with none, each mnemonic as R127 writes it (the lexical details are the
model's, notes/assumptions/23.md). -/
def Obligations.OperandFormsAssemble : Prop :=
  assembleLine "SETMODE Off".toList = .instr (.setmode 0#3) ∧
  assembleLine "SETMODE Cool".toList = .instr (.setmode 1#3) ∧
  assembleLine "SETMODE Dry".toList = .instr (.setmode 2#3) ∧
  assembleLine "SETMODE Heat".toList = .instr (.setmode 3#3) ∧
  assembleLine "SETMODE HeatCool".toList = .instr (.setmode 4#3) ∧
  assembleLine "SETMODE FanOnly".toList = .instr (.setmode 5#3) ∧
  (∀ m : BitVec 3, m.toNat ≤ 5 →
    assembleLine ("SETMODE ".toList ++ Nat.toDigits 10 m.toNat) = .instr (.setmode m)) ∧
  assembleLine "SETFAN Auto".toList = .instr (.setfan 0#3) ∧
  assembleLine "SETFAN Low".toList = .instr (.setfan 1#3) ∧
  assembleLine "SETFAN Medium".toList = .instr (.setfan 2#3) ∧
  assembleLine "SETFAN High".toList = .instr (.setfan 3#3) ∧
  assembleLine "SETFAN Quiet".toList = .instr (.setfan 4#3) ∧
  (∀ f : BitVec 3, f.toNat ≤ 4 →
    assembleLine ("SETFAN ".toList ++ Nat.toDigits 10 f.toNat) = .instr (.setfan f)) ∧
  assembleLine "SETSWING Off".toList = .instr (.setswing false) ∧
  assembleLine "SETSWING Vertical".toList = .instr (.setswing true) ∧
  assembleLine "SETSWING 0".toList = .instr (.setswing false) ∧
  assembleLine "SETSWING 1".toList = .instr (.setswing true) ∧
  (∀ t : Byte,
    assembleLine ("SETTEMP ".toList ++ Nat.toDigits 10 t.toNat) = .instr (.settemp t) ∧
    assembleLine ("SETTEMP 0x".toList ++ Nat.toDigits 16 t.toNat) = .instr (.settemp t)) ∧
  assembleLine "TRANSMIT 0, 0".toList = .instr (.transmit false false) ∧
  assembleLine "TRANSMIT 1, 0".toList = .instr (.transmit true false) ∧
  assembleLine "TRANSMIT 0, 1".toList = .instr (.transmit false true) ∧
  assembleLine "TRANSMIT 1, 1".toList = .instr (.transmit true true) ∧
  assembleLine "RECEIVE".toList = .instr .receive
end

