-- ==== Sys2Proof/Laws/State.lean ====
section
/-! SUPPORT. One lemma per field per named update of the state, each true by definition, so that no later proof unfolds
a record update. -/

namespace Sys2Proof.Machine

variable (s : State)
@[simp] theorem setMode_mode (m : Mode) : (setMode m s).mode = m := rfl
@[simp] theorem setMode_savedMode (m : Mode) : (setMode m s).savedMode = s.savedMode := rfl
@[simp] theorem setMode_fan (m : Mode) : (setMode m s).fan = s.fan := rfl
@[simp] theorem setMode_swing (m : Mode) : (setMode m s).swing = s.swing := rfl
@[simp] theorem setMode_temp (m : Mode) : (setMode m s).temp = s.temp := rfl
@[simp] theorem setMode_powerOn (m : Mode) : (setMode m s).powerOn = s.powerOn := rfl
@[simp] theorem setMode_wrFan (m : Mode) : (setMode m s).wrFan = s.wrFan := rfl
@[simp] theorem setMode_wrSwing (m : Mode) : (setMode m s).wrSwing = s.wrSwing := rfl
@[simp] theorem setMode_wrTemp (m : Mode) : (setMode m s).wrTemp = s.wrTemp := rfl
@[simp] theorem setMode_status (m : Mode) : (setMode m s).status = s.status := rfl
@[simp] theorem setMode_evt (m : Mode) : (setMode m s).evt = s.evt := rfl
@[simp] theorem setMode_rxw (m : Mode) : (setMode m s).rxw = s.rxw := rfl
@[simp] theorem setMode_clk (m : Mode) : (setMode m s).clk = s.clk := rfl
@[simp] theorem setMode_sf (m : Mode) : (setMode m s).sf = s.sf := rfl
@[simp] theorem setMode_cf (m : Mode) : (setMode m s).cf = s.cf := rfl
@[simp] theorem setMode_cfg (m : Mode) : (setMode m s).cfg = s.cfg := rfl
@[simp] theorem setMode_inputs (m : Mode) : (setMode m s).inputs = s.inputs := rfl
@[simp] theorem setMode_draws (m : Mode) : (setMode m s).draws = s.draws := rfl

@[simp] theorem setSavedMode_mode (m : Mode) : (setSavedMode m s).mode = s.mode := rfl
@[simp] theorem setSavedMode_savedMode (m : Mode) : (setSavedMode m s).savedMode = m := rfl
@[simp] theorem setSavedMode_fan (m : Mode) : (setSavedMode m s).fan = s.fan := rfl
@[simp] theorem setSavedMode_swing (m : Mode) : (setSavedMode m s).swing = s.swing := rfl
@[simp] theorem setSavedMode_temp (m : Mode) : (setSavedMode m s).temp = s.temp := rfl
@[simp] theorem setSavedMode_powerOn (m : Mode) : (setSavedMode m s).powerOn = s.powerOn := rfl
@[simp] theorem setSavedMode_wrFan (m : Mode) : (setSavedMode m s).wrFan = s.wrFan := rfl
@[simp] theorem setSavedMode_wrSwing (m : Mode) : (setSavedMode m s).wrSwing = s.wrSwing := rfl
@[simp] theorem setSavedMode_wrTemp (m : Mode) : (setSavedMode m s).wrTemp = s.wrTemp := rfl
@[simp] theorem setSavedMode_status (m : Mode) : (setSavedMode m s).status = s.status := rfl
@[simp] theorem setSavedMode_evt (m : Mode) : (setSavedMode m s).evt = s.evt := rfl
@[simp] theorem setSavedMode_rxw (m : Mode) : (setSavedMode m s).rxw = s.rxw := rfl
@[simp] theorem setSavedMode_clk (m : Mode) : (setSavedMode m s).clk = s.clk := rfl
@[simp] theorem setSavedMode_sf (m : Mode) : (setSavedMode m s).sf = s.sf := rfl
@[simp] theorem setSavedMode_cf (m : Mode) : (setSavedMode m s).cf = s.cf := rfl
@[simp] theorem setSavedMode_cfg (m : Mode) : (setSavedMode m s).cfg = s.cfg := rfl
@[simp] theorem setSavedMode_inputs (m : Mode) : (setSavedMode m s).inputs = s.inputs := rfl
@[simp] theorem setSavedMode_draws (m : Mode) : (setSavedMode m s).draws = s.draws := rfl

@[simp] theorem setPowerOn_mode (p : Bool) : (setPowerOn p s).mode = s.mode := rfl
@[simp] theorem setPowerOn_savedMode (p : Bool) : (setPowerOn p s).savedMode = s.savedMode := rfl
@[simp] theorem setPowerOn_fan (p : Bool) : (setPowerOn p s).fan = s.fan := rfl
@[simp] theorem setPowerOn_swing (p : Bool) : (setPowerOn p s).swing = s.swing := rfl
@[simp] theorem setPowerOn_temp (p : Bool) : (setPowerOn p s).temp = s.temp := rfl
@[simp] theorem setPowerOn_powerOn (p : Bool) : (setPowerOn p s).powerOn = p := rfl
@[simp] theorem setPowerOn_wrFan (p : Bool) : (setPowerOn p s).wrFan = s.wrFan := rfl
@[simp] theorem setPowerOn_wrSwing (p : Bool) : (setPowerOn p s).wrSwing = s.wrSwing := rfl
@[simp] theorem setPowerOn_wrTemp (p : Bool) : (setPowerOn p s).wrTemp = s.wrTemp := rfl
@[simp] theorem setPowerOn_status (p : Bool) : (setPowerOn p s).status = s.status := rfl
@[simp] theorem setPowerOn_evt (p : Bool) : (setPowerOn p s).evt = s.evt := rfl
@[simp] theorem setPowerOn_rxw (p : Bool) : (setPowerOn p s).rxw = s.rxw := rfl
@[simp] theorem setPowerOn_clk (p : Bool) : (setPowerOn p s).clk = s.clk := rfl
@[simp] theorem setPowerOn_sf (p : Bool) : (setPowerOn p s).sf = s.sf := rfl
@[simp] theorem setPowerOn_cf (p : Bool) : (setPowerOn p s).cf = s.cf := rfl
@[simp] theorem setPowerOn_cfg (p : Bool) : (setPowerOn p s).cfg = s.cfg := rfl
@[simp] theorem setPowerOn_inputs (p : Bool) : (setPowerOn p s).inputs = s.inputs := rfl
@[simp] theorem setPowerOn_draws (p : Bool) : (setPowerOn p s).draws = s.draws := rfl

@[simp] theorem writeFan_mode (f : FanSpeed) : (writeFan f s).mode = s.mode := rfl
@[simp] theorem writeFan_savedMode (f : FanSpeed) : (writeFan f s).savedMode = s.savedMode := rfl
@[simp] theorem writeFan_fan (f : FanSpeed) : (writeFan f s).fan = f := rfl
@[simp] theorem writeFan_swing (f : FanSpeed) : (writeFan f s).swing = s.swing := rfl
@[simp] theorem writeFan_temp (f : FanSpeed) : (writeFan f s).temp = s.temp := rfl
@[simp] theorem writeFan_powerOn (f : FanSpeed) : (writeFan f s).powerOn = s.powerOn := rfl
@[simp] theorem writeFan_wrFan (f : FanSpeed) : (writeFan f s).wrFan = true := rfl
@[simp] theorem writeFan_wrSwing (f : FanSpeed) : (writeFan f s).wrSwing = s.wrSwing := rfl
@[simp] theorem writeFan_wrTemp (f : FanSpeed) : (writeFan f s).wrTemp = s.wrTemp := rfl
@[simp] theorem writeFan_status (f : FanSpeed) : (writeFan f s).status = s.status := rfl
@[simp] theorem writeFan_evt (f : FanSpeed) : (writeFan f s).evt = s.evt := rfl
@[simp] theorem writeFan_rxw (f : FanSpeed) : (writeFan f s).rxw = s.rxw := rfl
@[simp] theorem writeFan_clk (f : FanSpeed) : (writeFan f s).clk = s.clk := rfl
@[simp] theorem writeFan_sf (f : FanSpeed) : (writeFan f s).sf = s.sf := rfl
@[simp] theorem writeFan_cf (f : FanSpeed) : (writeFan f s).cf = s.cf := rfl
@[simp] theorem writeFan_cfg (f : FanSpeed) : (writeFan f s).cfg = s.cfg := rfl
@[simp] theorem writeFan_inputs (f : FanSpeed) : (writeFan f s).inputs = s.inputs := rfl
@[simp] theorem writeFan_draws (f : FanSpeed) : (writeFan f s).draws = s.draws := rfl

@[simp] theorem writeSwing_mode (w : Swing) : (writeSwing w s).mode = s.mode := rfl
@[simp] theorem writeSwing_savedMode (w : Swing) : (writeSwing w s).savedMode = s.savedMode := rfl
@[simp] theorem writeSwing_fan (w : Swing) : (writeSwing w s).fan = s.fan := rfl
@[simp] theorem writeSwing_swing (w : Swing) : (writeSwing w s).swing = w := rfl
@[simp] theorem writeSwing_temp (w : Swing) : (writeSwing w s).temp = s.temp := rfl
@[simp] theorem writeSwing_powerOn (w : Swing) : (writeSwing w s).powerOn = s.powerOn := rfl
@[simp] theorem writeSwing_wrFan (w : Swing) : (writeSwing w s).wrFan = s.wrFan := rfl
@[simp] theorem writeSwing_wrSwing (w : Swing) : (writeSwing w s).wrSwing = true := rfl
@[simp] theorem writeSwing_wrTemp (w : Swing) : (writeSwing w s).wrTemp = s.wrTemp := rfl
@[simp] theorem writeSwing_status (w : Swing) : (writeSwing w s).status = s.status := rfl
@[simp] theorem writeSwing_evt (w : Swing) : (writeSwing w s).evt = s.evt := rfl
@[simp] theorem writeSwing_rxw (w : Swing) : (writeSwing w s).rxw = s.rxw := rfl
@[simp] theorem writeSwing_clk (w : Swing) : (writeSwing w s).clk = s.clk := rfl
@[simp] theorem writeSwing_sf (w : Swing) : (writeSwing w s).sf = s.sf := rfl
@[simp] theorem writeSwing_cf (w : Swing) : (writeSwing w s).cf = s.cf := rfl
@[simp] theorem writeSwing_cfg (w : Swing) : (writeSwing w s).cfg = s.cfg := rfl
@[simp] theorem writeSwing_inputs (w : Swing) : (writeSwing w s).inputs = s.inputs := rfl
@[simp] theorem writeSwing_draws (w : Swing) : (writeSwing w s).draws = s.draws := rfl

@[simp] theorem writeTemp_mode (t : Byte) : (writeTemp t s).mode = s.mode := rfl
@[simp] theorem writeTemp_savedMode (t : Byte) : (writeTemp t s).savedMode = s.savedMode := rfl
@[simp] theorem writeTemp_fan (t : Byte) : (writeTemp t s).fan = s.fan := rfl
@[simp] theorem writeTemp_swing (t : Byte) : (writeTemp t s).swing = s.swing := rfl
@[simp] theorem writeTemp_temp (t : Byte) : (writeTemp t s).temp = t := rfl
@[simp] theorem writeTemp_powerOn (t : Byte) : (writeTemp t s).powerOn = s.powerOn := rfl
@[simp] theorem writeTemp_wrFan (t : Byte) : (writeTemp t s).wrFan = s.wrFan := rfl
@[simp] theorem writeTemp_wrSwing (t : Byte) : (writeTemp t s).wrSwing = s.wrSwing := rfl
@[simp] theorem writeTemp_wrTemp (t : Byte) : (writeTemp t s).wrTemp = true := rfl
@[simp] theorem writeTemp_status (t : Byte) : (writeTemp t s).status = s.status := rfl
@[simp] theorem writeTemp_evt (t : Byte) : (writeTemp t s).evt = s.evt := rfl
@[simp] theorem writeTemp_rxw (t : Byte) : (writeTemp t s).rxw = s.rxw := rfl
@[simp] theorem writeTemp_clk (t : Byte) : (writeTemp t s).clk = s.clk := rfl
@[simp] theorem writeTemp_sf (t : Byte) : (writeTemp t s).sf = s.sf := rfl
@[simp] theorem writeTemp_cf (t : Byte) : (writeTemp t s).cf = s.cf := rfl
@[simp] theorem writeTemp_cfg (t : Byte) : (writeTemp t s).cfg = s.cfg := rfl
@[simp] theorem writeTemp_inputs (t : Byte) : (writeTemp t s).inputs = s.inputs := rfl
@[simp] theorem writeTemp_draws (t : Byte) : (writeTemp t s).draws = s.draws := rfl

@[simp] theorem setLastRx_mode (l : LastRx) : (setLastRx l s).mode = s.mode := rfl
@[simp] theorem setLastRx_savedMode (l : LastRx) : (setLastRx l s).savedMode = s.savedMode := rfl
@[simp] theorem setLastRx_fan (l : LastRx) : (setLastRx l s).fan = s.fan := rfl
@[simp] theorem setLastRx_swing (l : LastRx) : (setLastRx l s).swing = s.swing := rfl
@[simp] theorem setLastRx_temp (l : LastRx) : (setLastRx l s).temp = s.temp := rfl
@[simp] theorem setLastRx_powerOn (l : LastRx) : (setLastRx l s).powerOn = s.powerOn := rfl
@[simp] theorem setLastRx_wrFan (l : LastRx) : (setLastRx l s).wrFan = s.wrFan := rfl
@[simp] theorem setLastRx_wrSwing (l : LastRx) : (setLastRx l s).wrSwing = s.wrSwing := rfl
@[simp] theorem setLastRx_wrTemp (l : LastRx) : (setLastRx l s).wrTemp = s.wrTemp := rfl
@[simp] theorem setLastRx_status (l : LastRx) : (setLastRx l s).status = { s.status with lastRx := l } := rfl
@[simp] theorem setLastRx_evt (l : LastRx) : (setLastRx l s).evt = s.evt := rfl
@[simp] theorem setLastRx_rxw (l : LastRx) : (setLastRx l s).rxw = s.rxw := rfl
@[simp] theorem setLastRx_clk (l : LastRx) : (setLastRx l s).clk = s.clk := rfl
@[simp] theorem setLastRx_sf (l : LastRx) : (setLastRx l s).sf = s.sf := rfl
@[simp] theorem setLastRx_cf (l : LastRx) : (setLastRx l s).cf = s.cf := rfl
@[simp] theorem setLastRx_cfg (l : LastRx) : (setLastRx l s).cfg = s.cfg := rfl
@[simp] theorem setLastRx_inputs (l : LastRx) : (setLastRx l s).inputs = s.inputs := rfl
@[simp] theorem setLastRx_draws (l : LastRx) : (setLastRx l s).draws = s.draws := rfl

@[simp] theorem emit_mode (e : Event) : (emit e s).mode = s.mode := rfl
@[simp] theorem emit_savedMode (e : Event) : (emit e s).savedMode = s.savedMode := rfl
@[simp] theorem emit_fan (e : Event) : (emit e s).fan = s.fan := rfl
@[simp] theorem emit_swing (e : Event) : (emit e s).swing = s.swing := rfl
@[simp] theorem emit_temp (e : Event) : (emit e s).temp = s.temp := rfl
@[simp] theorem emit_powerOn (e : Event) : (emit e s).powerOn = s.powerOn := rfl
@[simp] theorem emit_wrFan (e : Event) : (emit e s).wrFan = s.wrFan := rfl
@[simp] theorem emit_wrSwing (e : Event) : (emit e s).wrSwing = s.wrSwing := rfl
@[simp] theorem emit_wrTemp (e : Event) : (emit e s).wrTemp = s.wrTemp := rfl
@[simp] theorem emit_status (e : Event) : (emit e s).status = s.status := rfl
@[simp] theorem emit_evt (e : Event) : (emit e s).evt = s.evt ++ [e] := rfl
@[simp] theorem emit_rxw (e : Event) : (emit e s).rxw = s.rxw := rfl
@[simp] theorem emit_clk (e : Event) : (emit e s).clk = s.clk := rfl
@[simp] theorem emit_sf (e : Event) : (emit e s).sf = s.sf := rfl
@[simp] theorem emit_cf (e : Event) : (emit e s).cf = s.cf := rfl
@[simp] theorem emit_cfg (e : Event) : (emit e s).cfg = s.cfg := rfl
@[simp] theorem emit_inputs (e : Event) : (emit e s).inputs = s.inputs := rfl
@[simp] theorem emit_draws (e : Event) : (emit e s).draws = s.draws := rfl

@[simp] theorem setSf_mode (f : Frame) : (setSf f s).mode = s.mode := rfl
@[simp] theorem setSf_savedMode (f : Frame) : (setSf f s).savedMode = s.savedMode := rfl
@[simp] theorem setSf_fan (f : Frame) : (setSf f s).fan = s.fan := rfl
@[simp] theorem setSf_swing (f : Frame) : (setSf f s).swing = s.swing := rfl
@[simp] theorem setSf_temp (f : Frame) : (setSf f s).temp = s.temp := rfl
@[simp] theorem setSf_powerOn (f : Frame) : (setSf f s).powerOn = s.powerOn := rfl
@[simp] theorem setSf_wrFan (f : Frame) : (setSf f s).wrFan = s.wrFan := rfl
@[simp] theorem setSf_wrSwing (f : Frame) : (setSf f s).wrSwing = s.wrSwing := rfl
@[simp] theorem setSf_wrTemp (f : Frame) : (setSf f s).wrTemp = s.wrTemp := rfl
@[simp] theorem setSf_status (f : Frame) : (setSf f s).status = s.status := rfl
@[simp] theorem setSf_evt (f : Frame) : (setSf f s).evt = s.evt := rfl
@[simp] theorem setSf_rxw (f : Frame) : (setSf f s).rxw = s.rxw := rfl
@[simp] theorem setSf_clk (f : Frame) : (setSf f s).clk = s.clk := rfl
@[simp] theorem setSf_sf (f : Frame) : (setSf f s).sf = f := rfl
@[simp] theorem setSf_cf (f : Frame) : (setSf f s).cf = s.cf := rfl
@[simp] theorem setSf_cfg (f : Frame) : (setSf f s).cfg = s.cfg := rfl
@[simp] theorem setSf_inputs (f : Frame) : (setSf f s).inputs = s.inputs := rfl
@[simp] theorem setSf_draws (f : Frame) : (setSf f s).draws = s.draws := rfl

@[simp] theorem setCf_mode (f : Frame) : (setCf f s).mode = s.mode := rfl
@[simp] theorem setCf_savedMode (f : Frame) : (setCf f s).savedMode = s.savedMode := rfl
@[simp] theorem setCf_fan (f : Frame) : (setCf f s).fan = s.fan := rfl
@[simp] theorem setCf_swing (f : Frame) : (setCf f s).swing = s.swing := rfl
@[simp] theorem setCf_temp (f : Frame) : (setCf f s).temp = s.temp := rfl
@[simp] theorem setCf_powerOn (f : Frame) : (setCf f s).powerOn = s.powerOn := rfl
@[simp] theorem setCf_wrFan (f : Frame) : (setCf f s).wrFan = s.wrFan := rfl
@[simp] theorem setCf_wrSwing (f : Frame) : (setCf f s).wrSwing = s.wrSwing := rfl
@[simp] theorem setCf_wrTemp (f : Frame) : (setCf f s).wrTemp = s.wrTemp := rfl
@[simp] theorem setCf_status (f : Frame) : (setCf f s).status = s.status := rfl
@[simp] theorem setCf_evt (f : Frame) : (setCf f s).evt = s.evt := rfl
@[simp] theorem setCf_rxw (f : Frame) : (setCf f s).rxw = s.rxw := rfl
@[simp] theorem setCf_clk (f : Frame) : (setCf f s).clk = s.clk := rfl
@[simp] theorem setCf_sf (f : Frame) : (setCf f s).sf = s.sf := rfl
@[simp] theorem setCf_cf (f : Frame) : (setCf f s).cf = f := rfl
@[simp] theorem setCf_cfg (f : Frame) : (setCf f s).cfg = s.cfg := rfl
@[simp] theorem setCf_inputs (f : Frame) : (setCf f s).inputs = s.inputs := rfl
@[simp] theorem setCf_draws (f : Frame) : (setCf f s).draws = s.draws := rfl

@[simp] theorem releaseScratch_mode : (releaseScratch s).mode = s.mode := rfl
@[simp] theorem releaseScratch_savedMode : (releaseScratch s).savedMode = s.savedMode := rfl
@[simp] theorem releaseScratch_fan : (releaseScratch s).fan = s.fan := rfl
@[simp] theorem releaseScratch_swing : (releaseScratch s).swing = s.swing := rfl
@[simp] theorem releaseScratch_temp : (releaseScratch s).temp = s.temp := rfl
@[simp] theorem releaseScratch_powerOn : (releaseScratch s).powerOn = s.powerOn := rfl
@[simp] theorem releaseScratch_wrFan : (releaseScratch s).wrFan = s.wrFan := rfl
@[simp] theorem releaseScratch_wrSwing : (releaseScratch s).wrSwing = s.wrSwing := rfl
@[simp] theorem releaseScratch_wrTemp : (releaseScratch s).wrTemp = s.wrTemp := rfl
@[simp] theorem releaseScratch_status : (releaseScratch s).status = s.status := rfl
@[simp] theorem releaseScratch_evt : (releaseScratch s).evt = s.evt := rfl
@[simp] theorem releaseScratch_rxw : (releaseScratch s).rxw = s.rxw := rfl
@[simp] theorem releaseScratch_clk : (releaseScratch s).clk = s.clk := rfl
@[simp] theorem releaseScratch_sf : (releaseScratch s).sf = frameOfDraw (Config.drawSf s.draws) := rfl
@[simp] theorem releaseScratch_cf : (releaseScratch s).cf = frameOfDraw (Config.drawCf s.draws) := rfl
@[simp] theorem releaseScratch_cfg : (releaseScratch s).cfg = s.cfg := rfl
@[simp] theorem releaseScratch_inputs : (releaseScratch s).inputs = s.inputs := rfl
@[simp] theorem releaseScratch_draws : (releaseScratch s).draws = s.draws + 1 := rfl

@[simp] theorem setRxw_mode (items : List Item) : (setRxw items s).mode = s.mode := rfl
@[simp] theorem setRxw_savedMode (items : List Item) : (setRxw items s).savedMode = s.savedMode := rfl
@[simp] theorem setRxw_fan (items : List Item) : (setRxw items s).fan = s.fan := rfl
@[simp] theorem setRxw_swing (items : List Item) : (setRxw items s).swing = s.swing := rfl
@[simp] theorem setRxw_temp (items : List Item) : (setRxw items s).temp = s.temp := rfl
@[simp] theorem setRxw_powerOn (items : List Item) : (setRxw items s).powerOn = s.powerOn := rfl
@[simp] theorem setRxw_wrFan (items : List Item) : (setRxw items s).wrFan = s.wrFan := rfl
@[simp] theorem setRxw_wrSwing (items : List Item) : (setRxw items s).wrSwing = s.wrSwing := rfl
@[simp] theorem setRxw_wrTemp (items : List Item) : (setRxw items s).wrTemp = s.wrTemp := rfl
@[simp] theorem setRxw_status (items : List Item) : (setRxw items s).status = s.status := rfl
@[simp] theorem setRxw_evt (items : List Item) : (setRxw items s).evt = s.evt := rfl
@[simp] theorem setRxw_rxw (items : List Item) : (setRxw items s).rxw = items := rfl
@[simp] theorem setRxw_clk (items : List Item) : (setRxw items s).clk = s.clk := rfl
@[simp] theorem setRxw_sf (items : List Item) : (setRxw items s).sf = s.sf := rfl
@[simp] theorem setRxw_cf (items : List Item) : (setRxw items s).cf = s.cf := rfl
@[simp] theorem setRxw_cfg (items : List Item) : (setRxw items s).cfg = s.cfg := rfl
@[simp] theorem setRxw_inputs (items : List Item) : (setRxw items s).inputs = s.inputs := rfl
@[simp] theorem setRxw_draws (items : List Item) : (setRxw items s).draws = s.draws := rfl

@[simp] theorem setClock_mode (p : ClockPort) : (setClock p s).mode = s.mode := rfl
@[simp] theorem setClock_savedMode (p : ClockPort) : (setClock p s).savedMode = s.savedMode := rfl
@[simp] theorem setClock_fan (p : ClockPort) : (setClock p s).fan = s.fan := rfl
@[simp] theorem setClock_swing (p : ClockPort) : (setClock p s).swing = s.swing := rfl
@[simp] theorem setClock_temp (p : ClockPort) : (setClock p s).temp = s.temp := rfl
@[simp] theorem setClock_powerOn (p : ClockPort) : (setClock p s).powerOn = s.powerOn := rfl
@[simp] theorem setClock_wrFan (p : ClockPort) : (setClock p s).wrFan = s.wrFan := rfl
@[simp] theorem setClock_wrSwing (p : ClockPort) : (setClock p s).wrSwing = s.wrSwing := rfl
@[simp] theorem setClock_wrTemp (p : ClockPort) : (setClock p s).wrTemp = s.wrTemp := rfl
@[simp] theorem setClock_status (p : ClockPort) : (setClock p s).status = s.status := rfl
@[simp] theorem setClock_evt (p : ClockPort) : (setClock p s).evt = s.evt := rfl
@[simp] theorem setClock_rxw (p : ClockPort) : (setClock p s).rxw = s.rxw := rfl
@[simp] theorem setClock_clk (p : ClockPort) : (setClock p s).clk = p := rfl
@[simp] theorem setClock_sf (p : ClockPort) : (setClock p s).sf = s.sf := rfl
@[simp] theorem setClock_cf (p : ClockPort) : (setClock p s).cf = s.cf := rfl
@[simp] theorem setClock_cfg (p : ClockPort) : (setClock p s).cfg = s.cfg := rfl
@[simp] theorem setClock_inputs (p : ClockPort) : (setClock p s).inputs = s.inputs := rfl
@[simp] theorem setClock_draws (p : ClockPort) : (setClock p s).draws = s.draws := rfl

@[simp] theorem recordFault_mode : (recordFault s).mode = s.mode := rfl
@[simp] theorem recordFault_savedMode : (recordFault s).savedMode = s.savedMode := rfl
@[simp] theorem recordFault_fan : (recordFault s).fan = s.fan := rfl
@[simp] theorem recordFault_swing : (recordFault s).swing = s.swing := rfl
@[simp] theorem recordFault_temp : (recordFault s).temp = s.temp := rfl
@[simp] theorem recordFault_powerOn : (recordFault s).powerOn = s.powerOn := rfl
@[simp] theorem recordFault_wrFan : (recordFault s).wrFan = s.wrFan := rfl
@[simp] theorem recordFault_wrSwing : (recordFault s).wrSwing = s.wrSwing := rfl
@[simp] theorem recordFault_wrTemp : (recordFault s).wrTemp = s.wrTemp := rfl
@[simp] theorem recordFault_status : (recordFault s).status = { s.status with fault := true, reason := firstReason s.status.reason .uninit } := rfl
@[simp] theorem recordFault_evt : (recordFault s).evt = s.evt := rfl
@[simp] theorem recordFault_rxw : (recordFault s).rxw = s.rxw := rfl
@[simp] theorem recordFault_clk : (recordFault s).clk = s.clk := rfl
@[simp] theorem recordFault_sf : (recordFault s).sf = s.sf := rfl
@[simp] theorem recordFault_cf : (recordFault s).cf = s.cf := rfl
@[simp] theorem recordFault_cfg : (recordFault s).cfg = s.cfg := rfl
@[simp] theorem recordFault_inputs : (recordFault s).inputs = s.inputs := rfl
@[simp] theorem recordFault_draws : (recordFault s).draws = s.draws := rfl

@[simp] theorem recordRefusal_mode (r : Reason) : (recordRefusal r s).mode = s.mode := rfl
@[simp] theorem recordRefusal_savedMode (r : Reason) : (recordRefusal r s).savedMode = s.savedMode := rfl
@[simp] theorem recordRefusal_fan (r : Reason) : (recordRefusal r s).fan = s.fan := rfl
@[simp] theorem recordRefusal_swing (r : Reason) : (recordRefusal r s).swing = s.swing := rfl
@[simp] theorem recordRefusal_temp (r : Reason) : (recordRefusal r s).temp = s.temp := rfl
@[simp] theorem recordRefusal_powerOn (r : Reason) : (recordRefusal r s).powerOn = s.powerOn := rfl
@[simp] theorem recordRefusal_wrFan (r : Reason) : (recordRefusal r s).wrFan = s.wrFan := rfl
@[simp] theorem recordRefusal_wrSwing (r : Reason) : (recordRefusal r s).wrSwing = s.wrSwing := rfl
@[simp] theorem recordRefusal_wrTemp (r : Reason) : (recordRefusal r s).wrTemp = s.wrTemp := rfl
@[simp] theorem recordRefusal_status (r : Reason) : (recordRefusal r s).status = { s.status with refused := true, reason := firstReason s.status.reason r } := rfl
@[simp] theorem recordRefusal_evt (r : Reason) : (recordRefusal r s).evt = s.evt := rfl
@[simp] theorem recordRefusal_rxw (r : Reason) : (recordRefusal r s).rxw = s.rxw := rfl
@[simp] theorem recordRefusal_clk (r : Reason) : (recordRefusal r s).clk = s.clk := rfl
@[simp] theorem recordRefusal_sf (r : Reason) : (recordRefusal r s).sf = s.sf := rfl
@[simp] theorem recordRefusal_cf (r : Reason) : (recordRefusal r s).cf = s.cf := rfl
@[simp] theorem recordRefusal_cfg (r : Reason) : (recordRefusal r s).cfg = s.cfg := rfl
@[simp] theorem recordRefusal_inputs (r : Reason) : (recordRefusal r s).inputs = s.inputs := rfl
@[simp] theorem recordRefusal_draws (r : Reason) : (recordRefusal r s).draws = s.draws := rfl

@[simp] theorem platformReset_mode : (platformReset s).mode = .off := rfl
@[simp] theorem platformReset_savedMode : (platformReset s).savedMode = modeOfDraw (Config.drawSavedMode s.draws) := rfl
@[simp] theorem platformReset_fan : (platformReset s).fan = .auto := rfl
@[simp] theorem platformReset_swing : (platformReset s).swing = .off := rfl
@[simp] theorem platformReset_temp : (platformReset s).temp = 0#8 := rfl
@[simp] theorem platformReset_powerOn : (platformReset s).powerOn = false := rfl
@[simp] theorem platformReset_wrFan : (platformReset s).wrFan = false := rfl
@[simp] theorem platformReset_wrSwing : (platformReset s).wrSwing = false := rfl
@[simp] theorem platformReset_wrTemp : (platformReset s).wrTemp = false := rfl
@[simp] theorem platformReset_status : (platformReset s).status = { lastRx := .noReceive, fault := false, refused := false, reason := .noReason } := rfl
@[simp] theorem platformReset_evt : (platformReset s).evt = [] := rfl
@[simp] theorem platformReset_rxw : (platformReset s).rxw = [] := rfl
@[simp] theorem platformReset_clk : (platformReset s).clk = s.clk := rfl
@[simp] theorem platformReset_sf : (platformReset s).sf = frameOfDraw (Config.drawSf s.draws) := rfl
@[simp] theorem platformReset_cf : (platformReset s).cf = frameOfDraw (Config.drawCf s.draws) := rfl
@[simp] theorem platformReset_cfg : (platformReset s).cfg = s.cfg := rfl
@[simp] theorem platformReset_inputs : (platformReset s).inputs = s.inputs := rfl
@[simp] theorem platformReset_draws : (platformReset s).draws = s.draws + 1 := rfl

/-- Two states with the same fields are the same: the way to prove an equation of states field by field. -/
theorem state_ext {s t : State} (hm : s.mode = t.mode) (hs : s.savedMode = t.savedMode) (hf : s.fan = t.fan)
    (hw : s.swing = t.swing) (ht : s.temp = t.temp) (hp : s.powerOn = t.powerOn) (h1 : s.wrFan = t.wrFan)
    (h2 : s.wrSwing = t.wrSwing) (h3 : s.wrTemp = t.wrTemp) (hst : s.status = t.status) (he : s.evt = t.evt)
    (hr : s.rxw = t.rxw) (hc : s.clk = t.clk) (hsf : s.sf = t.sf) (hcf : s.cf = t.cf) (hcfg : s.cfg = t.cfg)
    (hi : s.inputs = t.inputs) (hd : s.draws = t.draws) : s = t := by
  cases s; cases t; simp_all

end Sys2Proof.Machine
end

