-- ==== Sys2Proof/Laws/Ops.lean ====
section
/-! SUPPORT. For each shared operation the lemma that says once everything it can do. -/

namespace Sys2Proof.Machine

/-- A command run while the block is not stuck takes its effect (R120). -/
theorem runCommand_of_ready {k : State → State} {s : State} (h : isStuck s = false) :
    runCommand k s = .next (k s) := by
  simp [runCommand, h]

/-- A command run while the block is stuck changes nothing (R134). -/
theorem runCommand_of_stuck {k : State → State} {s : State} (h : isStuck s = true) : runCommand k s = .next s := by
  simp [runCommand, h]

/-- Everything `runCommand` can answer. -/
theorem runCommand_cases {k : State → State} {s t : State} (h : runCommand k s = .next t) :
    (isStuck s = true ∧ t = s) ∨ (isStuck s = false ∧ t = k s) := by
  unfold runCommand at h
  split at h
  · next hs => cases h; exact .inl ⟨hs, rfl⟩
  · next hs => cases h; exact .inr ⟨by simpa using hs, rfl⟩

/-- Being stuck is a matter of STATUS alone. -/
theorem isStuck_congr {s t : State} (h : s.status = t.status) : isStuck s = isStuck t := by
  simp [isStuck, h]

/-- What being stuck excludes, field by field. -/
theorem not_stuck {s : State} (h : isStuck s = false) : s.status.fault = false ∧ s.status.refused = false := by
  simpa [isStuck] using h

/-- SETMODE as a run command (R121). -/
theorem exec_setmode (m : BitVec 3) (s : State) :
    exec (.setmode m) s = runCommand (fun s =>
      match modeOfBits m with
      | some mode => setMode mode s
      | none => recordRefusal .encoding s) s := rfl

/-- SETFAN as a run command (R122). -/
theorem exec_setfan (f : BitVec 3) (s : State) :
    exec (.setfan f) s = runCommand (fun s =>
      match fanOfBits f with
      | some fan => writeFan fan s
      | none => recordRefusal .encoding s) s := rfl

/-- SETSWING as a run command (R123). -/
theorem exec_setswing (v : Bool) (s : State) :
    exec (.setswing v) s = runCommand (writeSwing (swingOfBool v)) s := rfl

/-- SETTEMP as a run command (R124). -/
theorem exec_settemp (t : Byte) (s : State) : exec (.settemp t) s = runCommand (writeTemp t) s := rfl

/-- TRANSMIT as a run command (R125). -/
theorem exec_transmit (c w : Bool) (s : State) :
    exec (.transmit c w) s = runCommand (fun s =>
      if isWritten s then
        match encodeBcd (sampleClock s).1.toNat, encodeBcd (sampleClock s).2.toNat with
        | some hourBcd, some minuteBcd => transmitChecked c w minuteBcd hourBcd s
        | _, _ => recordRefusal .bcdRange s
      else recordFault s) s := rfl

/-- RECEIVE as a run command (R126). -/
theorem exec_receive (s : State) :
    exec .receive s = runCommand (fun s => releaseScratch (applyRxOutcome (receiveDecode s.cfg s.rxw) s)) s := rfl

/-- A presented State Frame is a RECEIVE of its waveform (R128). -/
theorem exec_stateFrame (m f : Nibble) (n h b4 b5 t : Byte) (g k : Nibble) (s : State) :
    exec (.stateFrame m f n h b4 b5 t g k) s =
      exec .receive (setRxw (frameWaveform s.cfg (stateFrameOf m f n h b4 b5 t g k)) s) := rfl

/-- A presented Control Frame is a RECEIVE of its waveform (R128). -/
theorem exec_controlFrame (l k : Byte) (s : State) :
    exec (.controlFrame l k) s = exec .receive (setRxw (frameWaveform s.cfg (controlFrameOf l k)) s) := rfl

/-- `modeOfBits` inverts `modeBits`. -/
@[simp] theorem modeOfBits_modeBits (m : Mode) : modeOfBits (modeBits m) = some m := by cases m <;> decide

/-- `fanOfBits` inverts `fanBits`. -/
@[simp] theorem fanOfBits_fanBits (f : FanSpeed) : fanOfBits (fanBits f) = some f := by cases f <;> decide

/-- A mode operand is legal exactly up to 5. -/
theorem modeOfBits_isSome : ∀ b : BitVec 3, (modeOfBits b).isSome = decide (b.toNat ≤ 5) := by decide

/-- A fan operand is legal exactly up to 4. -/
theorem fanOfBits_isSome : ∀ b : BitVec 3, (fanOfBits b).isSome = decide (b.toNat ≤ 4) := by decide

/-- `encode_bcd` in its domain. -/
theorem encodeBcd_of_le {v : Nat} (h : v ≤ 99) : encodeBcd v = some (bcdByte v) := by
  simp [encodeBcd, Nat.not_lt.mpr h]

/-- `encode_bcd` outside its domain. -/
theorem encodeBcd_of_gt {v : Nat} (h : 99 < v) : encodeBcd v = none := by simp [encodeBcd, h]

/-- The clamped temperature lies in the range. -/
theorem clampTemp_range (t : Nat) : 16 ≤ clampTemp t ∧ clampTemp t ≤ 30 := by
  unfold clampTemp tempMin tempMax
  split_ifs <;> omega

/-- A TRANSMIT that passed its checks, as one record update (R125). -/
theorem transmitChecked_eq (ceiling wall : Bool) (mb hb : Byte) (s : State) :
    transmitChecked ceiling wall mb hb s =
      { s with
        savedMode := if s.mode = .off then s.savedMode else s.mode
        powerOn := (encodePowerToggle s.cfg s.mode s.powerOn).powerOn
        evt := s.evt ++ [.tx s.cfg.carrierHz (serialize s.cfg
          (buildStateFrame s.cfg (if s.mode = .off then s.savedMode else s.mode) s.fan s.swing s.temp mb hb
            (encodePowerToggle s.cfg s.mode s.powerOn).bit)
          (buildControlFrame s.cfg ceiling wall))]
        sf := frameOfDraw (Config.drawSf s.draws)
        cf := frameOfDraw (Config.drawCf s.draws)
        draws := s.draws + 1 } := by
  by_cases h : s.mode = .off <;>
    simp [transmitChecked, releaseScratch, emitWaveform, loadControlFrame, loadStateFrame, refreshSavedMode, emit,
      setCf, setSf, setPowerOn, setSavedMode, h]

/-- The receive transition, as one record update (R114). -/
theorem receiveTransition_eq (s : State) :
    receiveTransition s =
      { s with
        powerOn := receivedPower s.cfg s.sf s.powerOn
        savedMode := decodeMode s.sf.b1
        mode := if receivedPower s.cfg s.sf s.powerOn then decodeMode s.sf.b1 else .off
        fan := decodeFanSpeed s.cfg s.sf.b1
        swing := decodeFanSwing s.sf.b7
        temp := decodeTemperature s.cfg (Config.drawByte s.draws) s.sf.b6
        wrFan := true
        wrSwing := true
        wrTemp := true
        evt := s.evt ++ [.notify] } := rfl

/-- RECEIVE with outcome OK, as one record update (R113, R114). -/
theorem receive_ok_eq (f : Frame) (s : State) :
    releaseScratch (applyRxOutcome (.ok f) s) =
      { s with
        powerOn := receivedPower s.cfg f s.powerOn
        savedMode := decodeMode f.b1
        mode := if receivedPower s.cfg f s.powerOn then decodeMode f.b1 else .off
        fan := decodeFanSpeed s.cfg f.b1
        swing := decodeFanSwing f.b7
        temp := decodeTemperature s.cfg (Config.drawByte s.draws) f.b6
        wrFan := true
        wrSwing := true
        wrTemp := true
        status := { s.status with lastRx := .ok }
        evt := s.evt ++ [.notify]
        sf := frameOfDraw (Config.drawSf s.draws)
        cf := frameOfDraw (Config.drawCf s.draws)
        draws := s.draws + 1 } := rfl

/-- RECEIVE with outcome NOMATCH, as one record update (R113). -/
theorem receive_noMatch_eq (s : State) :
    releaseScratch (applyRxOutcome .noMatch s) =
      { s with
        status := { s.status with lastRx := .noMatch }
        sf := frameOfDraw (Config.drawSf s.draws)
        cf := frameOfDraw (Config.drawCf s.draws)
        draws := s.draws + 1 } := rfl

/-- RECEIVE with outcome CKFAIL, as one record update (R113). -/
theorem receive_ckFail_eq (s : State) :
    releaseScratch (applyRxOutcome .ckFail s) =
      { s with
        status := { s.status with lastRx := .ckFail }
        evt := s.evt ++ [.warnChecksum]
        sf := frameOfDraw (Config.drawSf s.draws)
        cf := frameOfDraw (Config.drawCf s.draws)
        draws := s.draws + 1 } := rfl

/-- RECEIVE writes neither FAULT, REFUSED nor REASON. -/
@[simp] theorem applyRxOutcome_fault (o : RxOutcome) (s : State) :
    (applyRxOutcome o s).status.fault = s.status.fault := by cases o <;> rfl

@[simp] theorem applyRxOutcome_refused (o : RxOutcome) (s : State) :
    (applyRxOutcome o s).status.refused = s.status.refused := by cases o <;> rfl

@[simp] theorem applyRxOutcome_reason (o : RxOutcome) (s : State) :
    (applyRxOutcome o s).status.reason = s.status.reason := by cases o <;> rfl

/-- RECEIVE writes neither the parameters, the inputs nor RXW (R117). -/
@[simp] theorem applyRxOutcome_cfg (o : RxOutcome) (s : State) : (applyRxOutcome o s).cfg = s.cfg := by
  cases o <;> rfl

@[simp] theorem applyRxOutcome_rxw (o : RxOutcome) (s : State) : (applyRxOutcome o s).rxw = s.rxw := by
  cases o <;> rfl

@[simp] theorem applyRxOutcome_clk (o : RxOutcome) (s : State) : (applyRxOutcome o s).clk = s.clk := by
  cases o <;> rfl

@[simp] theorem applyRxOutcome_inputs (o : RxOutcome) (s : State) : (applyRxOutcome o s).inputs = s.inputs := by
  cases o <;> rfl

/-- RECEIVE appends at most one event (R50). -/
theorem applyRxOutcome_evt (o : RxOutcome) (s : State) :
    (applyRxOutcome o s).evt =
      s.evt ++ (match o with | .ok _ => [.notify] | .noMatch => [] | .ckFail => [.warnChecksum]) := by
  cases o with
  | ok f => rfl
  | noMatch => exact (List.append_nil _).symm
  | ckFail => rfl

/-- All three registers a frame is built from were written. -/
theorem isWritten_iff (s : State) :
    isWritten s = true ↔ s.wrFan = true ∧ s.wrSwing = true ∧ s.wrTemp = true := by
  simp [isWritten, and_assoc]

/-- One of the three registers was not written. -/
theorem not_isWritten_iff (s : State) :
    isWritten s = false ↔ s.wrFan = false ∨ s.wrSwing = false ∨ s.wrTemp = false := by
  simp only [isWritten, Bool.and_eq_false_iff, or_assoc]

end Sys2Proof.Machine
end

