-- ==== Sys2Proof/Laws/PerInstr.lean ====
section
/-! SUPPORT. One statement per instruction about its encoding: every word of it, whatever its operands, has the match
bits of its row of spec/opcode_table.json under the row's mask, and no bit above the row's width. For a State Frame the
compared bits are byte 0 alone, the only byte the receive path compares with a constant (30_encoding.md R60). -/

namespace Sys2Proof.Laws.TableRow

/-- The mask of the instruction's row (30_encoding.md R70; for the frames R56, R60, R61). -/
def rowMask : Instr → FrameWord
  | .setmode _ => 0xFFF8#64
  | .setfan _ => 0xFFF8#64
  | .setswing _ => 0xFFFE#64
  | .settemp _ => 0xFF00#64
  | .transmit _ _ => 0xFFFC#64
  | .receive => 0xFFFF#64
  | .stateFrame _ _ _ _ _ _ _ _ _ => 0xFF#64
  | .controlFrame _ _ => 0x00FFFFFFFFFF00FF#64

/-- The match bits of the instruction's row. -/
def rowMatch : Instr → FrameWord
  | .setmode _ => 0x1000#64
  | .setfan _ => 0x2000#64
  | .setswing _ => 0x3000#64
  | .settemp _ => 0x4000#64
  | .transmit _ _ => 0x5000#64
  | .receive => 0x6000#64
  | .stateFrame _ _ _ _ _ _ _ _ _ => 0x16#64
  | .controlFrame _ _ => 0xA1#64

/-- The instruction's words fit its width and lie in its row of the opcode table. -/
def Statement (i : Instr) : Prop :=
  encode i < 2 ^ i.nbits ∧ BitVec.ofNat 64 (encode i) &&& rowMask i = rowMatch i

theorem setmode : ∀ mode, Statement (.setmode mode) := by unfold Statement; decide

theorem setfan : ∀ fan, Statement (.setfan fan) := by unfold Statement; decide

theorem setswing : ∀ vertical, Statement (.setswing vertical) := by unfold Statement; decide

theorem settemp : ∀ temp, Statement (.settemp temp) := by unfold Statement; decide +kernel

theorem transmit : ∀ ceiling wall, Statement (.transmit ceiling wall) := by unfold Statement; decide

theorem receive : Statement .receive := by unfold Statement; decide

/-- Masking the low byte of a word that ends in byte `b` leaves `b`. -/
theorem low_byte (x : BitVec 56) (b : BitVec 8) : (x ++ b : FrameWord) &&& 0xFF#64 = b.setWidth 64 := by
  apply BitVec.eq_of_getLsbD_eq
  intro k hk
  rw [BitVec.getLsbD_and, BitVec.getLsbD_append]
  interval_cases k <;> simp

theorem stateFrame : ∀ mode fan minute hour byte4 byte5 temp flags check,
    Statement (.stateFrame mode fan minute hour byte4 byte5 temp flags check) := by
  intro mode fan minute hour byte4 byte5 temp flags check
  refine ⟨BitVec.isLt _, ?_⟩
  simp only [encode, BitVec.ofNat_toNat, BitVec.setWidth_eq]
  exact low_byte _ _

theorem controlFrame : ∀ leds check, Statement (.controlFrame leds check) := by
  intro leds check
  refine ⟨BitVec.isLt _, ?_⟩
  simp only [encode, BitVec.ofNat_toNat, BitVec.setWidth_eq, rowMask, rowMatch]
  apply BitVec.eq_of_getLsbD_eq
  intro k hk
  simp only [BitVec.getLsbD_and, BitVec.getLsbD_append]
  interval_cases k <;> simp

end Sys2Proof.Laws.TableRow
end

