-- ==== Sys2Proof/Laws/Step.lean ====
section
/-! SUPPORT. Everything an instruction and a step can do, said once: the inversion lemmas from which every invariant
follows by cases. -/

namespace Sys2Proof.Machine

/-- What an instruction may have done to the state when it answers a next one. -/
inductive Effect (s : State) : State → Prop where
  /-- Stuck: nothing. -/
  | none (h : isStuck s = true) : Effect s s
  | mode (h : isStuck s = false) (m : Mode) : Effect s (setMode m s)
  | fan (h : isStuck s = false) (f : FanSpeed) : Effect s (writeFan f s)
  | swing (h : isStuck s = false) (w : Swing) : Effect s (writeSwing w s)
  | temp (h : isStuck s = false) (t : Byte) : Effect s (writeTemp t s)
  | refusal (h : isStuck s = false) (r : Reason) (hr : r = .encoding ∨ r = .bcdRange) :
      Effect s (recordRefusal r s)
  | fault (h : isStuck s = false) (hw : isWritten s = false) : Effect s (recordFault s)
  | transmit (h : isStuck s = false) (hw : isWritten s = true) (c w : Bool) (mb hb : Byte) :
      Effect s (transmitChecked c w mb hb s)
  | receive (h : isStuck s = false) :
      Effect s (releaseScratch (applyRxOutcome (receiveDecode s.cfg s.rxw) s))

/-- RECEIVE, by its effect. -/
theorem execReceive_effect {s t : State} (h : execReceive s = .next t) : Effect s t := by
  obtain ⟨hs, rfl⟩ | ⟨hs, rfl⟩ := runCommand_cases h
  · exact .none hs
  · exact .receive hs

/-- A refused word, by its effect. -/
theorem refuseWord_effect {s t : State} (h : refuseWord s = .next t) : Effect s t := by
  obtain ⟨hs, rfl⟩ | ⟨hs, rfl⟩ := runCommand_cases h
  · exact .none hs
  · exact .refusal hs _ (.inl rfl)

/-- TRANSMIT, by its effect. -/
theorem execTransmit_effect {c w : Bool} {s t : State} (h : execTransmit c w s = .next t) : Effect s t := by
  obtain ⟨hs, rfl⟩ | ⟨hs, rfl⟩ := runCommand_cases h
  · exact .none hs
  · by_cases hw : isWritten s = true
    · simp only [hw, if_true]
      split
      · exact .transmit hs hw c w _ _
      · exact .refusal hs _ (.inr rfl)
    · simp only [hw]
      exact .fault hs (by simpa using hw)

/-- Presenting a frame is the receiver's write of RXW and a RECEIVE. -/
theorem presentFrame_effect {f : Frame} {s t : State} (h : presentFrame f s = .next t) :
    ∃ items, Effect (setRxw items s) t :=
  ⟨_, execReceive_effect h⟩

/-- Every instruction, by its effect, on the state as it stands or with RXW written first. -/
theorem exec_effect {i : Instr} {s t : State} (h : exec i s = .next t) :
    Effect s t ∨ ∃ items, Effect (setRxw items s) t := by
  cases i with
  | setmode m =>
    dsimp only [exec, execSetmode] at h
    obtain ⟨hs, rfl⟩ | ⟨hs, rfl⟩ := runCommand_cases h
    · exact .inl (.none hs)
    · split
      · exact .inl (.mode hs _)
      · exact .inl (.refusal hs _ (.inl rfl))
  | setfan f =>
    dsimp only [exec, execSetfan] at h
    obtain ⟨hs, rfl⟩ | ⟨hs, rfl⟩ := runCommand_cases h
    · exact .inl (.none hs)
    · split
      · exact .inl (.fan hs _)
      · exact .inl (.refusal hs _ (.inl rfl))
  | setswing v =>
    obtain ⟨hs, rfl⟩ | ⟨hs, rfl⟩ := runCommand_cases h
    · exact .inl (.none hs)
    · exact .inl (.swing hs _)
  | settemp v =>
    obtain ⟨hs, rfl⟩ | ⟨hs, rfl⟩ := runCommand_cases h
    · exact .inl (.none hs)
    · exact .inl (.temp hs _)
  | transmit c w => exact .inl (execTransmit_effect h)
  | receive => exact .inl (execReceive_effect h)
  | stateFrame => exact .inr (presentFrame_effect h)
  | controlFrame => exact .inr (presentFrame_effect h)

/-- What a step may have done: wait, an agent's own act, reset, or an instruction's effect. -/
inductive StepEffect (s : State) : State → Prop where
  | wait (h : s.inputs = []) : StepEffect s s
  | rxw (rest : List Input) (items : List Item) (h : s.inputs = .rxw items :: rest) :
      StepEffect s (setRxw items { s with inputs := rest })
  | clock (rest : List Input) (p : ClockPort) (h : s.inputs = .clock p :: rest) :
      StepEffect s (setClock p { s with inputs := rest })
  | reset (rest : List Input) (h : s.inputs = .reset :: rest) :
      StepEffect s (platformReset { s with inputs := rest })
  | command (rest : List Input) (w : CommandWord) (h : s.inputs = .cmd w :: rest) (t : State)
      (he : Effect { s with inputs := rest } t) : StepEffect s t
  /-- The instruction saw RXW as the receiver had just written it. -/
  | presented (rest : List Input) (i : Input) (h : s.inputs = i :: rest) (hi : i ≠ .reset) (items : List Item)
      (t : State) (he : Effect (setRxw items { s with inputs := rest }) t) : StepEffect s t

/-- Only the frames write RXW first; a command word never does. -/
theorem decodeCommand_nbits {w : CommandWord} {i : Instr} (h : decodeCommand w = .instr i) : i.nbits = 16 := by
  unfold decodeCommand unlessReserved at h
  dsimp only at h
  split_ifs at h <;> (cases h; rfl)

/-- A step, by its effect. -/
theorem step_effect {s t : State} (h : step s = .next t) : StepEffect s t := by
  unfold step at h
  split at h
  · next hi => cases h; exact .wait hi
  · next w rest hi =>
    unfold stepCommand at h
    split at h
    · obtain he | ⟨items, he⟩ := exec_effect h
      · exact .command rest w hi t he
      · exact .presented rest _ hi (by simp) items t he
    · exact .command rest w hi t (refuseWord_effect h)
  · next w rest hi =>
    have : ∃ items, Effect (setRxw items { s with inputs := rest }) t := by
      unfold stepFrame at h
      split at h
      · next i hd =>
        unfold decodeFrame at hd
        dsimp only at hd
        split_ifs at hd <;> (cases hd; exact presentFrame_effect h)
      · exact presentFrame_effect h
    obtain ⟨items, he⟩ := this
    exact .presented rest _ hi (by simp) items t he
  · next items rest hi => cases h; exact .rxw rest items hi
  · next p rest hi => cases h; exact .clock rest p hi
  · next rest hi => cases h; exact .reset rest hi

end Sys2Proof.Machine
end

