-- ==== Sys2Proof/Laws/Wave.lean ====
section
/-! SUPPORT. The serializer and the receive decoder: lengths, positions and windows. -/

namespace Sys2Proof.Machine

/-- A byte's eight items, written out (R99). -/
theorem byteItems_eq (c : Config) (b : Byte) :
    byteItems c b = [bitItem c (b.getLsbD 0), bitItem c (b.getLsbD 1), bitItem c (b.getLsbD 2), bitItem c (b.getLsbD 3),
      bitItem c (b.getLsbD 4), bitItem c (b.getLsbD 5), bitItem c (b.getLsbD 6), bitItem c (b.getLsbD 7)] := rfl

@[simp] theorem byteItems_length (c : Config) (b : Byte) : (byteItems c b).length = 8 := rfl

@[simp] theorem frameItems_length (c : Config) (f : Frame) : (frameItems c f).length = 64 := rfl

@[simp] theorem decoyItems_length (c : Config) : (decoyItems c).length = c.decoyCount := by simp [decoyItems]

@[simp] theorem headerItems_length (c : Config) : (headerItems c).length = 3 := rfl

@[simp] theorem trailerItems_length (c : Config) : (trailerItems c).length = 9 := rfl

/-- The length of a transmitted waveform does not depend on the frames (R105). -/
theorem serialize_length (c : Config) (sf cf : Frame) : (serialize c sf cf).length = c.decoyCount + 141 := by
  simp [serialize]

/-- The bits of the 64-bit view are those of the bytes (R44). -/
theorem wordOfFrame_getLsbD (f : Frame) (k : Nat) :
    (wordOfFrame f).getLsbD k =
      if k < 8 then f.b0.getLsbD k else if k < 16 then f.b1.getLsbD (k - 8)
      else if k < 24 then f.b2.getLsbD (k - 16) else if k < 32 then f.b3.getLsbD (k - 24)
      else if k < 40 then f.b4.getLsbD (k - 32) else if k < 48 then f.b5.getLsbD (k - 40)
      else if k < 56 then f.b6.getLsbD (k - 48) else f.b7.getLsbD (k - 56) := by
  simp only [wordOfFrame, BitVec.getLsbD_append]
  split_ifs <;> first | rfl | omega

/-- A frame's items in wire order are the bits of its 64-bit view (R43, R44). -/
theorem frameItems_eq_map (c : Config) (f : Frame) :
    frameItems c f = (List.range 64).map fun k => bitItem c ((wordOfFrame f).getLsbD k) := by
  simp only [wordOfFrame_getLsbD]
  rfl

/-- Item k of a frame's items (R43). -/
theorem frameItems_getElem? (c : Config) (f : Frame) {k : Nat} (h : k < 64) :
    (frameItems c f)[k]? = some (bitItem c ((wordOfFrame f).getLsbD k)) := by
  rw [frameItems_eq_map, List.getElem?_map, List.getElem?_range h]
  rfl

/-- The window as two inequalities (R109). -/
theorem inWindow_iff (c : Config) (v nominal : Duration) :
    inWindow c v nominal = true ↔ windowLower c nominal ≤ v.toNat ∧ v.toNat ≤ windowUpper c nominal := by
  simp [inWindow]

/-- A nominal duration lies in its own window (R109, R119). -/
theorem inWindow_self {c : Config} (h : c.tolPct ≤ 99) (v : Duration) : inWindow c v v = true := by
  have h1 : (100 - c.tolPct) * v.toNat ≤ 100 * v.toNat := Nat.mul_le_mul_right _ (by omega)
  have h2 : 100 * v.toNat ≤ (100 + c.tolPct) * v.toNat := Nat.mul_le_mul_right _ (by omega)
  rw [inWindow_iff]
  constructor
  · exact Nat.div_le_of_le_mul h1
  · rw [windowUpper, Nat.le_div_iff_mul_le (by omega)]; omega

/-- An item matches at the cursor exactly where it is there and its mark and its space lie in the windows (R110, R136). -/
theorem itemMatchesAt_iff (c : Config) (rxw : List Item) (k : Nat) (nominal : Item) :
    itemMatchesAt c rxw k nominal = true ↔ ∃ it, rxw[k]? = some it ∧
      inWindow c it.mark nominal.mark = true ∧ inWindow c it.space nominal.space = true := by
  unfold itemMatchesAt itemMatches
  cases rxw[k]? <;> simp

/-- The headers match exactly where items 0, 1 and 2 do (R112, step 1). -/
theorem headersMatch_iff (c : Config) (rxw : List Item) :
    headersMatch c rxw = true ↔ itemMatchesAt c rxw 0 (header1Item c) = true ∧
      itemMatchesAt c rxw 1 (header1Item c) = true ∧ itemMatchesAt c rxw 2 (header2Item c) = true := by
  simp only [headersMatch, Bool.and_eq_true, and_assoc]

/-- A nominal item matches itself (R110). -/
theorem itemMatches_self {c : Config} (h : c.tolPct ≤ 99) (it : Item) : itemMatches c it it = true := by
  simp [itemMatches, inWindow_self h]

/-- With disjoint windows no duration is in both data-space windows (R7). -/
theorem spaces_exclusive {c : Config} (h : spacesDisjoint c = true) (v : Duration) :
    ¬ (inWindow c v (oneSpace c) = true ∧ inWindow c v (zeroSpace c) = true) := by
  simp only [spacesDisjoint, Bool.or_eq_true, decide_eq_true_eq] at h
  simp only [inWindow_iff]
  cases hv : c.spaceVariant <;> (simp only [oneSpace, zeroSpace, hv]; omega)

/-- The parts of admissibility (R7, R8). -/
theorem admissible_parts {c : Config} (h : admissible c = true) :
    c.tolPct ≤ 99 ∧ spacesDisjoint c = true ∧ decoyMatchesHeader c = false ∧
    (c.toggleBit = 0x02#8 ∨ c.toggleBit = 0x08#8) ∧ (fanCodes c).Nodup := by
  simp only [admissible, Bool.and_eq_true, Bool.or_eq_true, Bool.not_eq_true', decide_eq_true_eq, beq_iff_eq] at h
  tauto

/-- A data item at its nominal durations reads as its bit (R111, R119). -/
theorem readBit_bitItem {c : Config} (h : admissible c = true) (x : Bool) : readBit c (bitItem c x) = some x := by
  obtain ⟨ht, hd, -⟩ := admissible_parts h
  cases x
  · have hz : inWindow c (zeroSpace c) (oneSpace c) = false := by
      have := spaces_exclusive hd (zeroSpace c)
      simpa [inWindow_self ht] using this
    simp [readBit, itemMatches, bitItem, inWindow_self ht, hz]
  · simp [readBit, itemMatches_self ht]

/-- The bit at the cursor, where the item there is known. -/
theorem readBitAt_of_getElem? {c : Config} {rxw : List Item} {k : Nat} {it : Item} (h : rxw[k]? = some it) :
    readBitAt c rxw k = readBit c it := by
  simp [readBitAt, h]

/-- Eight bits put at their places are the byte they are the bits of. -/
theorem bitAt_assemble : ∀ b : Byte,
    bitAt (b.getLsbD 0) 0 ||| bitAt (b.getLsbD 1) 1 ||| bitAt (b.getLsbD 2) 2 ||| bitAt (b.getLsbD 3) 3
      ||| bitAt (b.getLsbD 4) 4 ||| bitAt (b.getLsbD 5) 5 ||| bitAt (b.getLsbD 6) 6 ||| bitAt (b.getLsbD 7) 7 = b := by
  decide +kernel

/-- The bits of eight bits put at their places. -/
theorem bitAt_bits : ∀ x0 x1 x2 x3 x4 x5 x6 x7 : Bool,
    let b := bitAt x0 0 ||| bitAt x1 1 ||| bitAt x2 2 ||| bitAt x3 3 ||| bitAt x4 4 ||| bitAt x5 5 ||| bitAt x6 6
      ||| bitAt x7 7
    b.getLsbD 0 = x0 ∧ b.getLsbD 1 = x1 ∧ b.getLsbD 2 = x2 ∧ b.getLsbD 3 = x3 ∧ b.getLsbD 4 = x4 ∧ b.getLsbD 5 = x5 ∧
    b.getLsbD 6 = x6 ∧ b.getLsbD 7 = x7 := by
  decide +kernel

/-- Reading a byte succeeds with `b` exactly where the eight items read as the bits of `b` (R112). -/
theorem readByteAt_eq_some (c : Config) (rxw : List Item) (k : Nat) (b : Byte) :
    readByteAt c rxw k = some b ↔ ∀ j, j < 8 → readBitAt c rxw (k + j) = some (b.getLsbD j) := by
  constructor
  · intro h
    simp only [readByteAt, Option.bind_eq_bind, Option.bind_eq_some_iff, Option.pure_def, Option.some.injEq] at h
    obtain ⟨x0, h0, x1, h1, x2, h2, x3, h3, x4, h4, x5, h5, x6, h6, x7, h7, rfl⟩ := h
    obtain ⟨e0, e1, e2, e3, e4, e5, e6, e7⟩ := bitAt_bits x0 x1 x2 x3 x4 x5 x6 x7
    intro j hj
    interval_cases j
    · rw [e0]; exact h0
    · rw [e1]; exact h1
    · rw [e2]; exact h2
    · rw [e3]; exact h3
    · rw [e4]; exact h4
    · rw [e5]; exact h5
    · rw [e6]; exact h6
    · rw [e7]; exact h7
  · intro h
    have h0 := h 0 (by omega)
    rw [Nat.add_zero] at h0
    simp only [readByteAt, h0, h 1 (by omega), h 2 (by omega), h 3 (by omega), h 4 (by omega), h 5 (by omega),
      h 6 (by omega), h 7 (by omega), Option.bind_eq_bind, Option.bind_some, Option.pure_def, bitAt_assemble]

/-- Reading the State Frame succeeds with `f` exactly where byte 0 is SF_HEADER and the eight bytes read (R112). -/
theorem readStateFrame_eq_some (c : Config) (rxw : List Item) (f : Frame) :
    readStateFrame c rxw = some f ↔ f.b0 = sfHeader ∧ readByteAt c rxw 3 = some f.b0 ∧
      readByteAt c rxw 11 = some f.b1 ∧ readByteAt c rxw 19 = some f.b2 ∧ readByteAt c rxw 27 = some f.b3 ∧
      readByteAt c rxw 35 = some f.b4 ∧ readByteAt c rxw 43 = some f.b5 ∧ readByteAt c rxw 51 = some f.b6 ∧
      readByteAt c rxw 59 = some f.b7 := by
  constructor
  · intro h
    unfold readStateFrame at h
    split at h
    · next b0 h0 =>
      split at h
      · next he =>
        simp only [readFrameTail, Option.bind_eq_bind, Option.bind_eq_some_iff, Option.pure_def,
          Option.some.injEq] at h
        obtain ⟨b1, h1, b2, h2, b3, h3, b4, h4, b5, h5, b6, h6, b7, h7, rfl⟩ := h
        exact ⟨he, h0, h1, h2, h3, h4, h5, h6, h7⟩
      · cases h
    · cases h
  · rintro ⟨he, h0, h1, h2, h3, h4, h5, h6, h7⟩
    obtain ⟨b0, b1, b2, b3, b4, b5, b6, b7⟩ := f
    dsimp only at he h0 h1 h2 h3 h4 h5 h6 h7
    subst he
    simp [readStateFrame, readFrameTail, h0, h1, h2, h3, h4, h5, h6, h7]

end Sys2Proof.Machine
end

