-- ==== Sys2Proof/Tests/Slice0.lean ====
section
/-! SUPPORT. Small tests with expected results from spec/95_test_vectors.md and the rules it cites, and for every
statement with hypotheses a witness that meets them, clause by clause at the edges of its ranges. -/

namespace Sys2Proof.Machine.Tests

/-! ## Helpers -/

/-- The spec's defaults with admissible values for the OPEN parameters. -/
def cfg : Config := configWith 100#32 200#32 0x01#8 0x80#8

/-- The same under variant B. -/
def cfgB : Config := { cfg with spaceVariant := .b }

/-- A frame of its 8 bytes. -/
def frame (b0 b1 b2 b3 b4 b5 b6 b7 : Byte) : Frame :=
  { b0 := b0, b1 := b1, b2 := b2, b3 := b3, b4 := b4, b5 := b5, b6 := b6, b7 := b7 }

/-- After reset, with SAVED_MODE drawn as Heat and the clock absent. -/
def fresh : State :=
  { State.afterReset cfg (.driven false 0#8 0#8) [] 0 with
    savedMode := .heat, sf := frame 0 0 0 0 0 0 0 0, cf := frame 0 0 0 0 0 0 0 0 }

/-- V-T1's start: Cool, Medium, Off, 24, believed off. -/
def cool24 : State :=
  { fresh with mode := .cool, fan := .medium, temp := 24#8, wrFan := true, wrSwing := true, wrTemp := true }

/-- V-T1's end, but for the event. -/
def cool24On : State := { cool24 with savedMode := .cool, powerOn := true }

/-- A state with a waveform captured. -/
def heard (items : List Item) (s : State) : State := { s with rxw := items }

/-- A state with one pending input. -/
def pending (i : Input) (s : State) : State := { s with inputs := [i] }

/-- A field of the next state. -/
def after {α : Type} (f : State → α) (o : Host.Outcome State Fault Refusal) : Option α :=
  match o with
  | .next t => some (f t)
  | .fault _ => none
  | .refused _ => none

/-- The registers of the AC Logical State. -/
structure Logical where
  mode : Mode
  savedMode : Mode
  fan : FanSpeed
  swing : Swing
  temp : Byte
  powerOn : Bool
  deriving DecidableEq

/-- The AC Logical State of a state. -/
def logical (s : State) : Logical := ⟨s.mode, s.savedMode, s.fan, s.swing, s.temp, s.powerOn⟩

/-- The events and STATUS. -/
def reported (s : State) : List Event × Byte := (s.evt, statusWord s.status)

/-- The Control Frame with no LED, V-K1. -/
def noLed : Frame := frame 0xA1 0 0 0 0 0 0 0xA1

/-- V-F1, V-F2, V-F3, and V-R3's frame. -/
def vf1 : Frame := frame 0x16 0x42 0x00 0x00 0x13 0x04 0x24 0x7C
def vf2 : Frame := frame 0x16 0x42 0x00 0x00 0x13 0x04 0x24 0xF4
def vf3 : Frame := frame 0x16 0x28 0x00 0x00 0x13 0x04 0x20 0x05
def vr3 : Frame := frame 0x16 0x28 0x00 0x00 0x13 0x04 0x20 0x15

/-- W1 of 95_test_vectors.md: V-S3 without its two decoy items. -/
def w1 : List Item := (serialize cfg vf1 noLed).drop 2

/-- W1 with one item replaced. -/
def w1With (k : Nat) (mark space : Duration) : List Item := w1.set k { mark := mark, space := space }

/-- Whether a waveform decodes OK. -/
def isOk (c : Config) (items : List Item) : Bool :=
  match receiveDecode c items with
  | .ok _ => true
  | .noMatch => false
  | .ckFail => false

/-! ## Well-formedness -/

/-- SETMODE 6 is ill-formed, SETMODE 5 is not (R70). -/
theorem test_wellFormed_setmode : (Instr.setmode 6#3).wellFormed = false ∧ (Instr.setmode 5#3).wellFormed = true := by
  decide

/-- SETFAN 5 is ill-formed, SETFAN 4 is not (R70). -/
theorem test_wellFormed_setfan : (Instr.setfan 5#3).wellFormed = false ∧ (Instr.setfan 4#3).wellFormed = true := by
  decide

/-! ## Decode: words written out from R70, R56 and R61 -/

theorem test_decode_setmode : decodeCommand 0b0001000000000001#16 = .instr (.setmode 1#3) := by decide

theorem test_decode_setfan : decodeCommand 0b0010000000000100#16 = .instr (.setfan 4#3) := by decide

theorem test_decode_setswing : decodeCommand 0b0011000000000001#16 = .instr (.setswing true) := by decide

theorem test_decode_settemp : decodeCommand 0b0100000000100011#16 = .instr (.settemp 35#8) := by decide

/-- Bit 0 is the ceiling LED, bit 1 the wall LED. -/
theorem test_decode_transmit :
    decodeCommand 0b0101000000000001#16 = .instr (.transmit true false) ∧
    decodeCommand 0b0101000000000010#16 = .instr (.transmit false true) := by decide

theorem test_decode_receive : decodeCommand 0b0110000000000000#16 = .instr .receive := by decide

/-- V-F3 as its 64 bits: byte 0 lowest. -/
theorem test_decode_stateFrame :
    decodeFrame 0x0520041300002816#64
      = .instr (.stateFrame 0x8#4 0x2#4 0x00#8 0x00#8 0x13#8 0x04#8 0x20#8 0x5#4 0x0#4) := by decide

/-- V-K2 with mask 0x80. -/
theorem test_decode_controlFrame : decodeFrame 0x21000000000080A1#64 = .instr (.controlFrame 0x80#8 0x21#8) := by decide

/-- V-E1, V-E3, V-E5: reserved opcodes and reserved bits, by name. -/
theorem test_decode_rejects :
    decodeCommand 0x0000#16 = .rejected (.reservedOpcode 0#4) ∧
    decodeCommand 0x7000#16 = .rejected (.reservedOpcode 7#4) ∧
    decodeCommand 0xF000#16 = .rejected (.reservedOpcode 15#4) ∧
    decodeCommand 0x1009#16 = .rejected (.reservedBits "SETMODE") ∧
    decodeCommand 0x2008#16 = .rejected (.reservedBits "SETFAN") ∧
    decodeCommand 0x3002#16 = .rejected (.reservedBits "SETSWING") ∧
    decodeCommand 0x4123#16 = .rejected (.reservedBits "SETTEMP") ∧
    decodeCommand 0x5004#16 = .rejected (.reservedBits "TRANSMIT") ∧
    decodeCommand 0x6001#16 = .rejected (.reservedBits "RECEIVE") ∧
    decodeFrame 0x17#64 = .rejected (.unknownHeader 0x17#8) ∧
    decodeFrame 0xA10000000001A1A1#64 = .rejected .controlFrameNotZero := by decide

/-! ## The functional units -/

/-- V-N2, V-N4, V-N6: Strong decodes to High, an unknown code to Auto, 0x9 to Quiet. -/
theorem test_decode_fan_codes :
    decodeFanSpeed cfg 0x38#8 = .high ∧ decodeFanSpeed cfg 0xF8#8 = .auto ∧ decodeFanSpeed cfg 0x92#8 = .quiet := by
  decide

/-- V-B4, V-B6: the source's expression on malformed bytes, and the clamp at its edges. -/
theorem test_bcd_and_clamp :
    decodeBcd { cfg with bcdMalformed := .formula } 0#8 0xFF#8 = 165#8 ∧
    encodeTemperature 15#8 = 0x16#8 ∧ encodeTemperature 30#8 = 0x30#8 ∧ encodeTemperature 255#8 = 0x30#8 := by
  decide +kernel

/-- V-F9 and V-F15: clock fields, a sum above 64. -/
theorem test_build_state_frame :
    buildStateFrame cfg .heatCool .quiet .vertical 30#8 0x59#8 0x23#8 0x08#8
      = frame 0x16 0x9A 0x59 0x23 0x13 0x04 0x30 0x5D ∧
    buildStateFrame cfg .heat .medium .off 16#8 0x99#8 0x99#8 0#8
      = frame 0x16 0x48 0x99 0x99 0x13 0x04 0x16 0xA4 := by decide +kernel

/-- V-K4: both LEDs, the byte checksum wrapping. -/
theorem test_build_control_frame : buildControlFrame cfg true true = frame 0xA1 0x81 0 0 0 0 0 0x22 := by
  decide +kernel

/-- V-S2: the data items of 0x16. -/
theorem test_byte_items :
    (byteItems cfg 0x16#8).map (fun it => it.space.toNat) = [350, 910, 910, 350, 910, 350, 350, 350] := by decide +kernel

/-- V-S5, V-S7: on-air lengths. -/
theorem test_on_air_time :
    onAirTime (serialize cfg vf1 noLed) = 2 * (100 + 200) + 187100 ∧
    onAirTime (serialize cfg (frame 0x16 0x42 0 0 0x13 0x04 0x30 0xC4) noLed) = 2 * (100 + 200) + 185980 := by
  decide +kernel

/-- R103 and R108: the gap item at its default, and with another gap mark, the data marks unchanged. -/
theorem test_gap_item :
    (serialize cfg vf1 noLed)[69]? = some { mark := 390#32, space := 20270#32 } ∧
    (serialize { cfg with gapMark := 500#32 } vf1 noLed)[69]? = some { mark := 500#32, space := 20270#32 } ∧
    (serialize { cfg with gapMark := 500#32 } vf1 noLed)[70]? = some { mark := 390#32, space := 910#32 } := by
  decide +kernel

/-- V-R14 and the like: items 1 and 2 are checked, in their own windows. -/
theorem test_later_headers :
    isOk cfg (w1With 1 12312#32 7327#32) = true ∧ isOk cfg (w1With 1 12312#32 7326#32) = false ∧
    isOk cfg (w1With 2 4650#32 3087#32) = true ∧ isOk cfg (w1With 2 4650#32 3088#32) = false ∧
    isOk cfg (w1With 2 9850#32 2470#32) = false := by decide +kernel

/-- V-R12, V-R13: the edges of the header-1 window. -/
theorem test_header_window :
    isOk cfg (w1With 0 7387#32 7327#32) = true ∧ isOk cfg (w1With 0 12312#32 12212#32) = true ∧
    isOk cfg (w1With 0 7386#32 9770#32) = false ∧ isOk cfg (w1With 0 12313#32 9770#32) = false := by decide +kernel

/-- V-R15 to V-R19: the edges of the data windows, the mark checked too. -/
theorem test_data_windows :
    isOk cfg (w1With 3 390#32 437#32) = true ∧ isOk cfg (w1With 3 390#32 438#32) = false ∧
    isOk cfg (w1With 4 390#32 682#32) = true ∧ isOk cfg (w1With 4 390#32 681#32) = false ∧
    isOk cfg (w1With 4 292#32 910#32) = true ∧ isOk cfg (w1With 4 291#32 910#32) = false := by decide +kernel

/-! ## One step per instruction -/

/-- V-H3. -/
theorem test_step_setmode : after logical (step (fresh.withFetchWord 16 0x1005))
    = some ⟨.fanOnly, .heat, .auto, .off, 0#8, false⟩ := by decide

/-- V-E2, V-E6: refused, then stuck. -/
theorem test_step_setmode_illegal : after (fun s => (s.mode, statusWord s.status)) (step (fresh.withFetchWord 16 0x1006))
    = some (.off, 0x50#8) := by decide

/-- V-H4. -/
theorem test_step_setfan : after (fun s => (s.fan, s.wrFan, s.wrSwing)) (step (fresh.withFetchWord 16 0x2004))
    = some (.quiet, true, false) := by decide

/-- V-E4. -/
theorem test_step_setfan_illegal : after (fun s => (s.wrFan, statusWord s.status)) (step (fresh.withFetchWord 16 0x2005))
    = some (false, 0x50#8) := by decide

/-- V-H5. -/
theorem test_step_setswing : after (fun s => (s.swing, s.wrSwing, s.wrTemp)) (step (fresh.withFetchWord 16 0x3001))
    = some (.vertical, true, false) := by decide

/-- V-H6: 35 is stored unclamped. -/
theorem test_step_settemp : after (fun s => (s.temp, s.wrTemp)) (step (fresh.withFetchWord 16 0x4023))
    = some (35#8, true) := by decide

/-- V-T1: the waveform of V-F1 with V-K1, POWER_ON and SAVED_MODE changed. -/
theorem test_step_transmit :
    after logical (step (cool24.withFetchWord 16 0x5000)) = some ⟨.cool, .cool, .medium, .off, 24#8, true⟩ ∧
    after State.evt (step (cool24.withFetchWord 16 0x5000)) = some [.tx 38000 (serialize cfg vf1 noLed)] := by
  decide +kernel

/-- V-T5: F_UNINIT. -/
theorem test_step_transmit_uninit :
    after (fun s => (statusWord s.status, s.evt, s.powerOn)) (step (fresh.withFetchWord 16 0x5000))
      = some (0x28#8, [], false) := by decide +kernel

/-- V-R2. -/
theorem test_step_receive :
    after logical (step ((heard (frameWaveform cfg vf3) cool24On).withFetchWord 16 0x6000)) = some ⟨.heat, .heat, .high, .vertical, 20#8, true⟩ ∧
    after reported (step ((heard (frameWaveform cfg vf3) cool24On).withFetchWord 16 0x6000)) = some ([.notify], 0x05#8) := by
  decide +kernel

/-- V-R3. -/
theorem test_step_receive_ckfail :
    after logical (step ((heard (frameWaveform cfg vr3) cool24On).withFetchWord 16 0x6000)) = some (logical cool24On) ∧
    after reported (step ((heard (frameWaveform cfg vr3) cool24On).withFetchWord 16 0x6000)) = some ([.warnChecksum], 0x03#8) := by
  decide +kernel

/-- V-R24: a received power-off, the frame presented as a word. -/
theorem test_step_stateFrame :
    after logical (step (cool24On.withFetchWord 64 0x7C24041300004216)) = some ⟨.off, .cool, .medium, .off, 24#8, false⟩ ∧
    after reported (step (cool24On.withFetchWord 64 0x7C24041300004216)) = some ([.notify], 0x05#8) := by
  decide +kernel

/-- R112: byte 0 of a Control Frame is not 0x16. -/
theorem test_step_controlFrame :
    after logical (step (cool24On.withFetchWord 64 0xA1000000000000A1)) = some (logical cool24On) ∧
    after reported (step (cool24On.withFetchWord 64 0xA1000000000000A1)) = some ([], 0x02#8) := by
  decide +kernel

/-! ## Witnesses: the hypotheses of the statements, met -/

theorem witness_decodeOfEncode :
    (Instr.setmode 5#3).wellFormed = true ∧ (Instr.setfan 4#3).wellFormed = true ∧ Instr.receive.wellFormed = true ∧
    (Instr.stateFrame 0xF#4 0xF#4 0xFF#8 0xFF#8 0xFF#8 0xFF#8 0xFF#8 0xF#4 0xF#4).wellFormed = true := by decide

theorem witness_acceptedWord :
    decodeCommand 0x40FF#16 = .instr (.settemp 0xFF#8) ∧ decodeFrame 0xA1#64 = .instr (.controlFrame 0#8 0#8) := by decide

/-- The words next to the legal ones. -/
theorem witness_illegalWord :
    (pending (.cmd 0x1006#16) fresh).inputs = .cmd 0x1006#16 :: [] ∧ isStuck (pending (.cmd 0x1006#16) fresh) = false ∧
    ¬ isLegalWord 0x1006#16 ∧ ¬ isLegalWord 0x2005#16 ∧ ¬ isLegalWord 0x3002#16 ∧ ¬ isLegalWord 0x4100#16 ∧
    ¬ isLegalWord 0x5004#16 ∧ ¬ isLegalWord 0x6001#16 ∧ ¬ isLegalWord 0x0000#16 ∧ ¬ isLegalWord 0x7000#16 := by
  refine ⟨rfl, rfl, ?_, ?_, ?_, ?_, ?_, ?_, ?_, ?_⟩ <;> (unfold isLegalWord; decide)

/-- The legal words next to them. -/
theorem witness_legalWord :
    isLegalWord 0x1005#16 ∧ isLegalWord 0x2004#16 ∧ isLegalWord 0x3001#16 ∧ isLegalWord 0x40FF#16 ∧
    isLegalWord 0x5003#16 ∧ isLegalWord 0x6000#16 := by
  refine ⟨?_, ?_, ?_, ?_, ?_, ?_⟩ <;> (unfold isLegalWord; decide)

theorem witness_illegalOperand : isStuck fresh = false ∧ 5 < (6#3).toNat ∧ 4 < (5#3).toNat := by decide

theorem witness_stepRuns :
    (pending (.cmd 0x6000#16) fresh).inputs = .cmd 0x6000#16 :: [] ∧ decodeCommand 0x6000#16 = .instr .receive ∧
    (pending (.frame 0xA1#64) fresh).inputs = .frame 0xA1#64 :: [] ∧
    decodeFrame 0xA1#64 = .instr (.controlFrame 0#8 0#8) ∧ decodeTableWord 16 0x6000 = some .receive ∧
    decodeTableWord 64 0xA1 = some (.controlFrame 0#8 0#8) := by decide

theorem witness_otherAgents :
    fresh.inputs = [] ∧ (pending (.rxw w1) fresh).inputs = .rxw w1 :: [] ∧
    (pending (.clock .undriven) fresh).inputs = .clock .undriven :: [] := by decide +kernel

/-- Stuck by a fault and by a refusal; a pending word may be a legal, an illegal or a reserved one. -/
theorem witness_stuck :
    isStuck (recordFault fresh) = true ∧ isStuck (recordRefusal .encoding fresh) = true ∧
    isStuck (pending (.cmd 0x7000#16) (recordFault fresh)) = true ∧
    (pending (.cmd 0x7000#16) (recordFault fresh)).inputs = .cmd 0x7000#16 :: [] ∧
    (pending (.cmd 0x1006#16) (recordFault fresh)).inputs = .cmd 0x1006#16 :: [] ∧
    (pending (.cmd 0x1001#16) (recordFault fresh)).inputs = .cmd 0x1001#16 :: [] := by decide

/-- For SETMODE, SETFAN, SETSWING and SETTEMP. -/
theorem witness_settings : isStuck fresh = false ∧ isStuck cool24On = false := by decide

theorem witness_codecRoundTrips :
    Mode.fanOnly ≠ Mode.off ∧ admissible cfg = true ∧ admissible cfgB = true := by decide +kernel

theorem witness_fanCodes : admissible cfg = true ∧ encodeFanSpeed cfg .high = 0x2#4 ∧ cfg.fanStrong = 0x3#4 := by
  decide +kernel

theorem witness_operandForms : (5#3).toNat ≤ 5 ∧ (4#3).toNat ≤ 4 := by decide

theorem witness_bcdRoundTrip : 0 ≤ 99 ∧ 99 ≤ 99 ∧ highNibble 0x99#8 ≤ 9 ∧ lowNibble 0x99#8 ≤ 9 := by decide

theorem witness_bcdDigits :
    0 ≤ 99 ∧ 99 ≤ 99 ∧ (0x95#8 >>> 4).toNat ≤ 9 ∧ (0x95#8 &&& 0x0F#8).toNat ≤ 9 ∧ (0x09#8 >>> 4).toNat ≤ 9 ∧
    (0x09#8 &&& 0x0F#8).toNat ≤ 9 := by decide

theorem witness_bcdOutside :
    99 < 100 ∧ 9 < highNibble 0xA0#8 ∧ 9 < lowNibble 0x0A#8 ∧ cfg.bcdMalformed = .draw ∧
    ({ cfg with bcdMalformed := .formula } : Config).bcdMalformed = .formula := by decide

theorem witness_builtStateFrame :
    0x0F#8 &&& 0xF0#8 = 0#8 ∧ 0x00#8 &&& 0xF0#8 = 0#8 ∧ cfg.toggleBit &&& 0xF0#8 = 0#8 ∧ admissible cfg = true ∧
    (0x08#8 = 0#8 ∨ 0x08#8 = cfg.toggleBit) := by decide +kernel

theorem witness_singleBitError : stateChecksumOk vf1 = true ∧ 0 < 64 ∧ 63 < 64 := by decide +kernel

theorem witness_waveformLayout : 0 < cfg.decoyCount ∧ 1 < cfg.decoyCount ∧ 0 < 8 ∧ 7 < 8 := by decide

theorem witness_uninit :
    isStuck fresh = false ∧ fresh.wrFan = false ∧
    isStuck { cool24 with wrSwing := false } = false ∧ isStuck { cool24 with wrTemp := false } = false := by decide

/-- A TRANSMIT that does set FAULT. -/
theorem witness_uninit_only :
    exec (.transmit true true) fresh = .next (recordFault fresh) ∧ fresh.status.fault = false ∧
    (recordFault fresh).status.fault = true := ⟨rfl, rfl, rfl⟩

/-- The hour just above 99 with the minute in range, and the other way round. -/
theorem witness_clockAbove :
    let hour : State := { cool24 with clk := .driven true 100#8 99#8 }
    let minute : State := { cool24 with clk := .driven true 99#8 100#8 }
    isStuck hour = false ∧ hour.wrFan = true ∧ hour.wrSwing = true ∧ hour.wrTemp = true ∧ isStuck minute = false ∧
    minute.wrFan = true ∧ minute.wrSwing = true ∧ minute.wrTemp = true ∧ 99 < (sampleClock hour).1.toNat ∧
    (sampleClock hour).2.toNat ≤ 99 ∧ 99 < (sampleClock minute).2.toNat ∧ (sampleClock minute).1.toNat ≤ 99 := by
  decide

theorem witness_ready :
    isReady cool24 ∧ isReady { cool24 with clk := .driven true 99#8 99#8 } ∧ admissible cool24.cfg = true ∧
    cool24.clk = .driven false 0#8 0#8 ∧ cool24.savedMode ≠ .off := by
  unfold isReady
  decide +kernel

/-- For the LED requests: TRANSMIT 0, 0 answers, with an event from a ready state and with none from one that faults. -/
theorem witness_ledRequests :
    (∃ t, exec (.transmit false false) cool24 = .next t ∧ t.evt ≠ cool24.evt) ∧ exec (.transmit false false) fresh = .next (recordFault fresh) :=
  ⟨⟨_, rfl, List.cons_ne_nil _ _⟩, rfl⟩

theorem witness_invalidClock :
    ∃ t, exec (.transmit false false) { cool24 with clk := .driven false 200#8 0#8 } = .next t := ⟨_, rfl⟩

/-- A 1, a 0, and a mismatch between the windows and on the mark (variant A: ONE [682, 1137], ZERO [262, 437]). -/
theorem witness_readBit :
    inWindow cfg 292#32 cfg.bitMark = true ∧ inWindow cfg 1137#32 (oneSpace cfg) = true ∧
    inWindow cfg 437#32 (oneSpace cfg) = false ∧ inWindow cfg 437#32 (zeroSpace cfg) = true ∧
    inWindow cfg 438#32 (zeroSpace cfg) = false ∧ inWindow cfg 681#32 (oneSpace cfg) = false ∧
    inWindow cfg 291#32 cfg.bitMark = false := by decide +kernel

theorem witness_nominalItem : admissible cfg = true ∧ admissible cfgB = true := by decide +kernel

theorem witness_receiveOutcomes :
    receiveDecode cfg w1 = .ok vf1 ∧ receiveDecode cfg (frameWaveform cfg vr3) = .ckFail ∧
    receiveDecode cfg [] = .noMatch ∧ receiveDecode cfg (w1.take 66) = .noMatch := by decide +kernel

theorem witness_itemsFrom67 : w1.take 67 = (w1.take 67 ++ [({ mark := 1#32, space := 1#32 } : Item)]).take 67 := by decide +kernel

theorem witness_rejectedReceive :
    isStuck (heard [] fresh) = false ∧ receiveDecode (heard [] fresh).cfg (heard [] fresh).rxw = .noMatch ∧
    isStuck (heard (frameWaveform cfg vr3) fresh) = false ∧
    receiveDecode (heard (frameWaveform cfg vr3) fresh).cfg (heard (frameWaveform cfg vr3) fresh).rxw = .ckFail := by
  decide +kernel

theorem witness_acceptedReceive :
    isStuck (heard w1 fresh) = false ∧ receiveDecode (heard w1 fresh).cfg (heard w1 fresh).rxw = .ok vf1 := by
  decide +kernel

theorem witness_decoyGuard :
    admissible cfg = true ∧ 0 < cfg.decoyCount ∧
    (serialize cfg vf1 noLed)[0]? = some { mark := cfg.decoyMark, space := cfg.decoySpace } := by decide +kernel

theorem witness_transmittedFrame :
    admissible cfg = true ∧ vf1.b0 = 0x16#8 ∧ stateChecksumOk vf1 = true := by decide +kernel

theorem witness_wrongVariant :
    admissible cfg = true ∧ vf1.b0 = 0x16#8 ∧
    cfgB = { cfg with spaceVariant := if cfg.spaceVariant = .a then .b else .a } ∧
    cfg = { cfgB with spaceVariant := if cfgB.spaceVariant = .a then .b else .a } := by decide +kernel

/-- For the presented frames; both checksum outcomes occur. -/
theorem witness_presentedFrames :
    isStuck fresh = false ∧ admissible fresh.cfg = true ∧ stateChecksumOk vf3 = true ∧ stateChecksumOk vr3 = false := by
  decide +kernel

theorem witness_reset :
    (pending .reset (recordFault cool24)).inputs = .reset :: [] ∧
    step (recordFault fresh) = .next (recordFault fresh) ∧ (recordFault fresh).inputs.head? ≠ some .reset ∧
    (recordFault fresh).status.fault = true ∧ (recordFault fresh).status.reason ≠ .noReason ∧
    (recordRefusal .bcdRange fresh).status.refused = true := ⟨rfl, rfl, by decide, rfl, by decide, rfl⟩

theorem witness_boot :
    isStuck fresh = false ∧ (4#3).toNat ≤ 4 ∧
    List.Perm [Instr.settemp 255#8, .setfan 4#3, .setswing true] [.setfan 4#3, .setswing true, .settemp 255#8] := by
  decide

theorem witness_onlyResetClears :
    step (pending (.cmd 0x1001#16) cool24) = .next cool24 ∧
    (pending (.cmd 0x1001#16) cool24).inputs.head? ≠ some .reset ∧ cool24.wrFan = true ∧ cool24.wrSwing = true ∧
    cool24.wrTemp = true := ⟨rfl, by decide, rfl, rfl, rfl⟩

theorem witness_onlyReceiveReports :
    (∃ t, exec (.setmode 1#3) fresh = .next t) ∧ (∃ t, exec (.setfan 1#3) fresh = .next t) ∧
    (∃ t, exec (.setswing true) fresh = .next t) ∧ (∃ t, exec (.settemp 1#8) fresh = .next t) ∧
    (∃ t, exec (.transmit true true) cool24 = .next t) ∧ (∃ t, exec .receive fresh = .next t) ∧
    (∃ t, exec (.stateFrame 1#4 1#4 0#8 0#8 0#8 0#8 0#8 0#4 0#4) fresh = .next t) ∧
    (∃ t, exec (.controlFrame 0#8 0#8) fresh = .next t) :=
  ⟨⟨_, rfl⟩, ⟨_, rfl⟩, ⟨_, rfl⟩, ⟨_, rfl⟩, ⟨_, rfl⟩, ⟨_, rfl⟩, ⟨_, rfl⟩, ⟨_, rfl⟩⟩

/-- POWER_ON changes by a TRANSMIT and by a RECEIVE. -/
theorem witness_powerOnChanges :
    admissible cool24.cfg = true ∧
    after (fun t => t.powerOn != cool24.powerOn) (step (pending (.cmd 0x5000#16) cool24)) = some true ∧
    after (fun t => t.powerOn != cool24.powerOn) (step (pending (.cmd 0x6000#16) (heard w1 cool24))) = some true ∧
    (pending (.cmd 0x5000#16) cool24).inputs.head? ≠ some .reset := by decide +kernel

theorem witness_savedModeNeverOff : fresh.savedMode ≠ .off ∧ step fresh = .next fresh :=
  ⟨by decide, rfl⟩

/-- The invariant holds in a state with a TX event, and a step from it answers. -/
theorem witness_stepKeepsInvariant :
    let s : State := { cool24On with evt := [.tx 38000 (serialize cfg vf1 noLed)] }
    StateInv s ∧ step s = .next s := by
  refine ⟨⟨by decide, ⟨by decide, by decide, by decide⟩, ?_, ?_, ?_, ?_, ?_⟩, rfl⟩
  · intro e he
    rw [List.mem_singleton.mp he]
    exact ⟨rfl, by decide +kernel⟩
  · intro _ e he
    rw [List.mem_singleton.mp he]
    simp [isReceiveEvent]
  · intro h; cases h
  · intro h; cases h
  · intro _ _ _; rfl

end Sys2Proof.Machine.Tests
end

/-! ## The parameters and the tolerance window (00_scope.md R7, R8; 43_receive.md R109 to R111) -/

namespace Sys2Proof.Machine

/-- The statements' nominal data item is the one the serializer makes (R97, R98). -/
theorem dataItem_eq_bitItem (c : Config) (x : Bool) : dataItem c x = bitItem c x := by
  cases hv : c.spaceVariant <;> cases x <;> simp [dataItem, bitItem, oneSpace, zeroSpace, hv]

/-- The model's window test decides the statements' `fits` (R109). -/
theorem inWindow_iff_fits (c : Config) (v nominal : Duration) : inWindow c v nominal = true ↔ fits c v nominal :=
  inWindow_iff c v nominal

/-- The lower bound is at most the nominal duration, so that it is itself a 32-bit duration (R109). -/
theorem windowLower_le (c : Config) (nominal : Duration) : windowLower c nominal ≤ nominal.toNat :=
  Nat.div_le_of_le_mul (Nat.mul_le_mul_right _ (Nat.sub_le 100 c.tolPct))

/-- The upper bound is at least the nominal duration (R109). -/
theorem le_windowUpper (c : Config) (nominal : Duration) : nominal.toNat ≤ windowUpper c nominal :=
  (Nat.le_div_iff_mul_le (by decide)).2 <| by
    rw [Nat.mul_comm]
    exact Nat.mul_le_mul_right _ (Nat.le_add_right 100 c.tolPct)

/-- A window's own lower bound, as a duration, lies in any window that begins no later and ends no earlier than it. -/
theorem fits_windowLower {c : Config} {a b : Duration} (hl : windowLower c b ≤ windowLower c a)
    (hu : windowLower c a ≤ windowUpper c b) : fits c (BitVec.ofNat 32 (windowLower c a)) b := by
  have hlt : windowLower c a < 2 ^ 32 := (windowLower_le c a).trans_lt a.isLt
  rw [← inWindow_iff_fits, inWindow_iff, BitVec.toNat_ofNat, Nat.mod_eq_of_lt hlt]
  exact ⟨hl, hu⟩

/-- Two windows share a duration exactly where each begins before the other ends: the later of the two lower bounds is
then in both. -/
theorem exists_fits_both_iff (c : Config) (a b : Duration) :
    (∃ v, fits c v a ∧ fits c v b) ↔ windowLower c a ≤ windowUpper c b ∧ windowLower c b ≤ windowUpper c a := by
  constructor
  · rintro ⟨v, ⟨hla, hua⟩, ⟨hlb, hub⟩⟩
    exact ⟨hla.trans hub, hlb.trans hua⟩
  · rintro ⟨hab, hba⟩
    have self (d : Duration) : windowLower c d ≤ windowUpper c d := (windowLower_le c d).trans (le_windowUpper c d)
    rcases le_total (windowLower c a) (windowLower c b) with h | h
    · exact ⟨_, fits_windowLower h hba, fits_windowLower le_rfl (self b)⟩
    · exact ⟨_, fits_windowLower le_rfl (self a), fits_windowLower h hab⟩

/-- The model's test on the bounds of the data-space windows says that they share no duration (R7). -/
theorem spacesDisjoint_iff (c : Config) :
    spacesDisjoint c = true ↔ ∀ v, ¬ (fits c v c.longSpace ∧ fits c v c.shortSpace) := by
  rw [← not_exists, exists_fits_both_iff, not_and_or, not_le, not_le]
  simp only [spacesDisjoint, Bool.or_eq_true, decide_eq_true_eq]

/-- The model's test on the decoy item, in the statements' windows (R7, R101). -/
theorem decoyMatchesHeader_iff (c : Config) :
    decoyMatchesHeader c = true ↔ fits c c.decoyMark c.hdr1Mark ∧ fits c c.decoySpace c.hdr1Space := by
  simp only [decoyMatchesHeader, Bool.and_eq_true, inWindow_iff_fits]

/-- The shifted ones of the model's test are the eight bytes written out (R8). -/
theorem singleBit_iff (b : Byte) : singleBit b = true ↔ isSingleBit b := by
  simp [singleBit, isSingleBit, List.range_succ]

/-- Admissibility, test by test (R7, R8). -/
theorem admissible_iff (c : Config) :
    admissible c = true ↔ c.tolPct ≤ 99 ∧ spacesDisjoint c = true ∧ ¬ decoyMatchesHeader c = true ∧
      (c.toggleBit = 0x02#8 ∨ c.toggleBit = 0x08#8) ∧ (fanCodes c).Nodup ∧
      singleBit c.ceilLedMask = true ∧ singleBit c.wallLedMask = true ∧ c.ceilLedMask ≠ c.wallLedMask := by
  simp only [admissible, Bool.and_eq_true, Bool.or_eq_true, Bool.not_eq_true', Bool.not_eq_true, decide_eq_true_eq,
    beq_iff_eq, bne_iff_ne, and_assoc]

/-- Settles O36: the serializer's item for a bit reads as that bit, as the data windows are disjoint. -/
theorem nominalItemReadsAsItsBit : Obligations.NominalItemReadsAsItsBit := by
  intro c x h
  rw [dataItem_eq_bitItem]
  exact readBit_bitItem h x

/-- Settles O60, constraint by constraint; the window test on bounds against durations is `spacesDisjoint_iff`. -/
theorem admissibleParametersMeetConstraints : Obligations.AdmissibleParametersMeetConstraints := by
  intro c
  rw [← spacesDisjoint_iff, ← decoyMatchesHeader_iff, ← singleBit_iff, ← singleBit_iff]
  exact admissible_iff c

end Sys2Proof.Machine

/-! ## What a step does, in two cases (60_exceptions.md R144; 70_reset_and_hazards.md R149) -/

namespace Sys2Proof.Machine

/-- The state as the agents outside the block leave it to the block: RXW, the clock inputs and the pending inputs are
theirs to write (R33, R34, R144), everything else is as it was. -/
def actedOn (s : State) (items : List Item) (port : ClockPort) (rest : List Input) : State :=
  { s with rxw := items, clk := port, inputs := rest }

/-- A step is a reset, or the agents' acts and after them at most one instruction's effect. -/
theorem step_cases {s t : State} (h : step s = .next t) :
    (∃ rest, s.inputs = .reset :: rest ∧ t = platformReset { s with inputs := rest }) ∨
    (s.inputs.head? ≠ some .reset ∧
      ∃ items port rest, t = actedOn s items port rest ∨ Effect (actedOn s items port rest) t) := by
  cases step_effect h with
  | wait hi => exact .inr ⟨by simp [hi], _, _, _, .inl rfl⟩
  | rxw rest items hi => exact .inr ⟨by simp [hi], items, s.clk, rest, .inl rfl⟩
  | clock rest port hi => exact .inr ⟨by simp [hi], s.rxw, port, rest, .inl rfl⟩
  | reset rest hi => exact .inl ⟨rest, hi, rfl⟩
  | command rest w hi _ he => exact .inr ⟨by simp [hi], s.rxw, s.clk, rest, .inr he⟩
  | presented rest i hi hr items _ he => exact .inr ⟨by simpa [hi] using hr, items, s.clk, rest, .inr he⟩

/-- What the agents' acts, an instruction's effect and a reset keep, a step keeps. -/
theorem step_keeps {P : State → Prop}
    (agents : ∀ s items port rest, P s → P (actedOn s items port rest))
    (effect : ∀ s t, Effect s t → P s → P t) (reset : ∀ s, P (platformReset s))
    {s t : State} (hs : P s) (h : step s = .next t) : P t := by
  obtain ⟨rest, -, rfl⟩ | ⟨-, items, port, rest, rfl | he⟩ := step_cases h
  · exact reset _
  · exact agents s items port rest hs
  · exact effect _ _ he (agents s items port rest hs)

/-! ## SAVED_MODE (10_state.md R19, R20) -/

/-- The reset draw of SAVED_MODE is of the five non-Off modes (R19). -/
theorem modeOfDraw_ne_off : ∀ d : Fin 5, modeOfDraw d ≠ .off := by decide

/-- No code decodes to Off (40_state_codec.md R74). -/
theorem decodeMode_ne_off (b : Byte) : decodeMode b ≠ .off := by
  unfold decodeMode
  dsimp only
  split_ifs <;> decide

/-- No instruction makes SAVED_MODE Off: TRANSMIT takes MODE only where that is not Off, RECEIVE takes a decoded mode. -/
theorem Effect.savedMode_ne_off {s t : State} (h : Effect s t) (hs : s.savedMode ≠ .off) : t.savedMode ≠ .off := by
  cases h with
  | none | mode | fan | swing | temp | refusal | fault => exact hs
  | transmit =>
    rw [transmitChecked_eq]
    dsimp only
    split_ifs with hm
    · exact hs
    · exact hm
  | receive =>
    cases receiveDecode s.cfg s.rxw with
    | ok f => exact decodeMode_ne_off f.b1
    | noMatch | ckFail => exact hs

/-- Settles O54: reset draws a non-Off mode, and no instruction writes Off. -/
theorem savedModeIsNeverOff : Obligations.SavedModeIsNeverOff :=
  ⟨modeOfDraw_ne_off _, fun _ _ => step_keeps (P := fun s => s.savedMode ≠ .off) (fun _ _ _ _ hs => hs)
    (fun _ _ => Effect.savedMode_ne_off) (fun _ => modeOfDraw_ne_off _)⟩

/-! ## What only grows: the parameters, the event log and the written bits (10_state.md R26, R35, R39) -/

/-- From `s` to `t` the parameters stay, no event is removed and no written bit is cleared. -/
structure Extends (s t : State) : Prop where
  cfg : t.cfg = s.cfg
  evt : s.evt <+: t.evt
  wrFan : s.wrFan = true → t.wrFan = true
  wrSwing : s.wrSwing = true → t.wrSwing = true
  wrTemp : s.wrTemp = true → t.wrTemp = true

/-- What is written stays written. -/
theorem Extends.isWritten {s t : State} (h : Extends s t) (hs : isWritten s = true) : isWritten t = true := by
  obtain ⟨hf, hw, ht⟩ := (isWritten_iff s).1 hs
  exact (isWritten_iff t).2 ⟨h.wrFan hf, h.wrSwing hw, h.wrTemp ht⟩

/-- No instruction clears anything. -/
theorem Effect.extends {s t : State} (h : Effect s t) : Extends s t := by
  cases h with
  | none | mode | refusal | fault => exact ⟨rfl, List.prefix_rfl, id, id, id⟩
  | fan => exact ⟨rfl, List.prefix_rfl, fun _ => rfl, id, id⟩
  | swing => exact ⟨rfl, List.prefix_rfl, id, fun _ => rfl, id⟩
  | temp => exact ⟨rfl, List.prefix_rfl, id, id, fun _ => rfl⟩
  | transmit =>
    rw [transmitChecked_eq]
    exact ⟨rfl, List.prefix_append _ _, id, id, id⟩
  | receive =>
    cases receiveDecode s.cfg s.rxw with
    | ok f => exact ⟨rfl, List.prefix_append _ _, fun _ => rfl, fun _ => rfl, fun _ => rfl⟩
    | noMatch => exact ⟨rfl, List.prefix_rfl, id, id, id⟩
    | ckFail => exact ⟨rfl, List.prefix_append _ _, id, id, id⟩

/-- Settles O51: only a reset is no extension of the state before. -/
theorem onlyResetClears : Obligations.OnlyResetClears := by
  intro s t h
  obtain ⟨rest, hi, rfl⟩ | ⟨-, items, port, rest, rfl | he⟩ := step_cases h
  · exact ⟨rfl, fun hr => absurd (by simp [hi]) hr⟩
  · exact ⟨rfl, fun _ => ⟨List.prefix_rfl, id, id, id⟩⟩
  · obtain ⟨hcfg, hevt, hf, hw, ht⟩ := he.extends
    exact ⟨hcfg, fun _ => ⟨hevt, hf, hw, ht⟩⟩

/-! ## What is reported: the event log and LAST_RX (10_state.md R31, R35; 43_receive.md R113) -/

/-- What an instruction reports: nothing, the waveform it sent, or one of the three outcomes of RECEIVE. -/
inductive Report (s t : State) : Prop where
  | quiet (he : t.evt = s.evt) (hl : t.status.lastRx = s.status.lastRx)
  | sent (hw : isWritten s = true) (sf cf : Frame)
      (he : t.evt = s.evt ++ [.tx s.cfg.carrierHz (serialize s.cfg sf cf)]) (hl : t.status.lastRx = s.status.lastRx)
  | accepted (hw : isWritten t = true) (he : t.evt = s.evt ++ [.notify]) (hl : t.status.lastRx = .ok)
  | unmatched (he : t.evt = s.evt) (hl : t.status.lastRx = .noMatch)
  | warned (he : t.evt = s.evt ++ [.warnChecksum]) (hl : t.status.lastRx = .ckFail)

/-- A TRANSMIT that passed its checks reports the waveform it sent (R125). -/
theorem transmitChecked_report {s : State} (hw : isWritten s = true) (c w : Bool) (mb hb : Byte) :
    Report s (transmitChecked c w mb hb s) := by
  rw [transmitChecked_eq]
  exact .sent hw _ _ rfl rfl

/-- Every instruction reports in one of these ways. -/
theorem Effect.report {s t : State} (h : Effect s t) : Report s t := by
  cases h with
  | none | mode | fan | swing | temp | refusal | fault => exact .quiet rfl rfl
  | transmit _ hw c w mb hb => exact transmitChecked_report hw c w mb hb
  | receive =>
    cases receiveDecode s.cfg s.rxw with
    | ok f => exact .accepted rfl rfl rfl
    | noMatch => exact .unmatched rfl rfl
    | ckFail => exact .warned rfl rfl

/-! ## The invariant (10_state.md R20; 60_exceptions.md R131 to R133) -/

/-- A block that is not stuck has no reason recorded, because a reason goes with a mark (R131). -/
theorem StatusConsistent.reason_of_not_stuck {s : State} (h : StatusConsistent s.status) (hs : isStuck s = false) :
    s.status.reason = .noReason := by
  obtain ⟨hf, hr⟩ := not_stuck hs
  by_contra hne
  simpa [hf, hr] using h.reason_marked hne

/-- LAST_RX has no part in the consistency of STATUS. -/
theorem StatusConsistent.with_lastRx {st : Status} (h : StatusConsistent st) (l : LastRx) :
    StatusConsistent { st with lastRx := l } :=
  ⟨h.fault_reason, h.refused_reason, h.reason_marked⟩

/-- Recording a fault on a block that is not stuck: REASON becomes UNINIT (R132). -/
theorem recordFault_consistent {s : State} (h : StatusConsistent s.status) (hs : isStuck s = false) :
    StatusConsistent (recordFault s).status := by
  constructor <;> simp [h.reason_of_not_stuck hs, (not_stuck hs).2, firstReason]

/-- Recording a refusal on a block that is not stuck: REASON becomes the refusal's (R133). -/
theorem recordRefusal_consistent {s : State} (h : StatusConsistent s.status) (hs : isStuck s = false) {r : Reason}
    (hr : r = .encoding ∨ r = .bcdRange) : StatusConsistent (recordRefusal r s).status := by
  constructor <;> simp [h.reason_of_not_stuck hs, (not_stuck hs).1, firstReason, hr]

/-- Every instruction keeps STATUS consistent. -/
theorem Effect.statusConsistent {s t : State} (h : Effect s t) (hs : StatusConsistent s.status) :
    StatusConsistent t.status := by
  cases h with
  | none | mode | fan | swing | temp => exact hs
  | refusal h r hr => exact recordRefusal_consistent hs h hr
  | fault h => exact recordFault_consistent hs h
  | transmit =>
    rw [transmitChecked_eq]
    exact hs
  | receive =>
    cases receiveDecode s.cfg s.rxw with
    | ok f | noMatch | ckFail => exact hs.with_lastRx _

/-- A waveform the block serialized, on its carrier, fits (30_encoding.md R66, R106). -/
theorem eventFits_tx (c : Config) (sf cf : Frame) : eventFits c (.tx c.carrierHz (serialize c sf cf)) :=
  ⟨rfl, serialize_length c sf cf⟩

/-- What holds of every event in the log and of the event appended holds of the new log. -/
theorem forall_mem_concat {P : Event → Prop} {log : List Event} {e : Event} (hlog : ∀ x ∈ log, P x) (he : P e) :
    ∀ x ∈ log ++ [e], P x :=
  List.forall_mem_append.2 ⟨hlog, List.forall_mem_singleton.2 he⟩

/-- Where nothing is cleared, a report keeps the invariant's account of the events. -/
theorem StateInv.of_report {s t : State} (h : StateInv s) (hx : Extends s t) (hr : Report s t)
    (hm : t.savedMode ≠ .off) (hc : StatusConsistent t.status) : StateInv t := by
  obtain ⟨-, -, hfit, hnone, hok, hck, hwr⟩ := h
  have hwr' : ∀ e ∈ s.evt, e ≠ .warnChecksum → isWritten t = true := fun e he hne => hx.isWritten (hwr e he hne)
  rw [← hx.cfg] at hfit
  cases hr with
  | quiet he hl =>
    rw [← he, ← hl] at hnone hok hck
    rw [← he] at hfit hwr'
    exact ⟨hm, hc, hfit, hnone, hok, hck, hwr'⟩
  | sent hw sf cf he hl =>
    rw [← hl] at hnone hok hck
    refine ⟨hm, hc, ?_, fun h => ?_, fun h => ?_, fun h => ?_, ?_⟩ <;> rw [he]
    · exact forall_mem_concat hfit (hx.cfg ▸ eventFits_tx s.cfg sf cf)
    · exact forall_mem_concat (hnone h) (by simp [isReceiveEvent])
    · exact List.mem_append_left _ (hok h)
    · exact List.mem_append_left _ (hck h)
    · exact forall_mem_concat hwr' (fun _ => hx.isWritten hw)
  | accepted hw he hl =>
    refine ⟨hm, hc, ?_, by simp [hl], fun _ => ?_, by simp [hl], fun _ _ _ => hw⟩ <;> rw [he]
    · exact forall_mem_concat hfit trivial
    · exact List.mem_concat_self
  | unmatched he hl =>
    exact ⟨hm, hc, he ▸ hfit, by simp [hl], by simp [hl], by simp [hl], he ▸ hwr'⟩
  | warned he hl =>
    refine ⟨hm, hc, ?_, by simp [hl], by simp [hl], fun _ => ?_, ?_⟩ <;> rw [he]
    · exact forall_mem_concat hfit trivial
    · exact List.mem_concat_self
    · exact forall_mem_concat hwr' (fun hne => absurd rfl hne)

/-- Every instruction keeps the invariant. -/
theorem Effect.stateInv {s t : State} (h : Effect s t) (hs : StateInv s) : StateInv t :=
  hs.of_report h.extends h.report (h.savedMode_ne_off hs.saved_not_off) (h.statusConsistent hs.status_consistent)

/-- The agents' acts keep the invariant, which speaks of no field of theirs. -/
theorem StateInv.actedOn {s : State} (h : StateInv s) (items : List Item) (port : ClockPort) (rest : List Input) :
    StateInv (actedOn s items port rest) :=
  h.of_report ⟨rfl, List.prefix_rfl, id, id, id⟩ (.quiet rfl rfl) h.saved_not_off h.status_consistent

/-- Reset leaves a state that meets the invariant, whatever its draws are (70_reset_and_hazards.md R148). -/
theorem stateInv_afterReset (cfg : Config) (clk : ClockPort) (inputs : List Input) (draws : Nat) :
    StateInv (State.afterReset cfg clk inputs draws) where
  saved_not_off := modeOfDraw_ne_off _
  status_consistent := by constructor <;> simp [State.afterReset]
  events_fit := by simp [State.afterReset]
  no_receive_events := by simp [State.afterReset]
  ok_notified := by simp [State.afterReset]
  ckfail_warned := by simp [State.afterReset]
  events_written := by simp [State.afterReset]

/-- Settles O56: each instruction, each act of an agent and a reset keep the invariant. -/
theorem stepKeepsInvariant : Obligations.StepKeepsInvariant := fun _ _ hs h =>
  step_keeps (P := StateInv) (fun _ items port rest hs => hs.actedOn items port rest) (fun _ _ => Effect.stateInv)
    (fun _ => stateInv_afterReset _ _ _ _) hs h

/-! ## Which command reports what (10_state.md R31, R35; 20_memory.md R50) -/

/-- A command that reports nothing where it runs reports nothing where the block is stuck either. -/
theorem runCommand_quiet {k : State → State} {s t : State} (h : runCommand k s = .next t)
    (hk : (k s).status.lastRx = s.status.lastRx ∧ (k s).evt = s.evt) :
    t.status.lastRx = s.status.lastRx ∧ t.evt = s.evt := by
  obtain ⟨-, rfl⟩ | ⟨-, rfl⟩ := runCommand_cases h
  · exact ⟨rfl, rfl⟩
  · exact hk

/-- TRANSMIT leaves LAST_RX and appends at most one TX. -/
theorem execTransmit_reports {c w : Bool} {s t : State} (h : execTransmit c w s = .next t) :
    t.status.lastRx = s.status.lastRx ∧ (t.evt = s.evt ∨ ∃ hz items, t.evt = s.evt ++ [.tx hz items]) := by
  obtain ⟨-, rfl⟩ | ⟨-, rfl⟩ := runCommand_cases h
  · exact ⟨rfl, .inl rfl⟩
  · split_ifs
    · split
      · rw [transmitChecked_eq]
        exact ⟨rfl, .inr ⟨_, _, rfl⟩⟩
      · exact ⟨rfl, .inl rfl⟩
    · exact ⟨rfl, .inl rfl⟩

/-- RECEIVE appends at most one of NOTIFY and WARN_CHECKSUM. -/
theorem execReceive_reports {s t : State} (h : execReceive s = .next t) :
    t.evt = s.evt ∨ t.evt = s.evt ++ [.notify] ∨ t.evt = s.evt ++ [.warnChecksum] := by
  obtain ⟨-, rfl⟩ | ⟨-, rfl⟩ := runCommand_cases h
  · exact .inl rfl
  · rw [releaseScratch_evt, applyRxOutcome_evt]
    cases receiveDecode s.cfg s.rxw with
    | ok f => exact .inr (.inl rfl)
    | noMatch => exact .inl (List.append_nil _)
    | ckFail => exact .inr (.inr rfl)

/-- Settles O52. A presented frame is a RECEIVE from a state with the same event log. -/
theorem onlyReceiveReports : Obligations.OnlyReceiveReports := by
  intro i s t h
  cases i with
  | setmode m =>
    rw [exec_setmode] at h
    exact runCommand_quiet h (by split <;> exact ⟨rfl, rfl⟩)
  | setfan f =>
    rw [exec_setfan] at h
    exact runCommand_quiet h (by split <;> exact ⟨rfl, rfl⟩)
  | setswing v => exact runCommand_quiet h ⟨rfl, rfl⟩
  | settemp v => exact runCommand_quiet h ⟨rfl, rfl⟩
  | transmit c w => exact execTransmit_reports h
  | receive => exact execReceive_reports h
  | stateFrame m f n hr b4 b5 temp g k =>
    exact execReceive_reports (s := setRxw (frameWaveform s.cfg (stateFrameOf m f n hr b4 b5 temp g k)) s) h
  | controlFrame l k => exact execReceive_reports (s := setRxw (frameWaveform s.cfg (controlFrameOf l k)) s) h

/-! ## POWER_ON (10_state.md R25; 40_state_codec.md R84; 43_receive.md R114) -/

/-- TOGGLE_BIT is not 0 (00_scope.md R8). -/
theorem toggleBit_ne_zero {c : Config} (h : admissible c = true) : c.toggleBit ≠ 0#8 := by
  obtain ⟨-, -, -, htoggle, -⟩ := admissible_parts h
  rcases htoggle with h | h <;> rw [h] <;> decide

/-- Where `encode_power_toggle` changes POWER_ON it returns TOGGLE_BIT (R84). -/
theorem encodePowerToggle_bit_of_change {c : Config} {m : Mode} {p : Bool}
    (h : (encodePowerToggle c m p).powerOn ≠ p) : (encodePowerToggle c m p).bit = c.toggleBit := by
  unfold encodePowerToggle at h ⊢
  dsimp only at h ⊢
  split_ifs at h ⊢ with hw
  · rfl
  · exact absurd rfl h

/-- A built State Frame carries the toggle it was built with: the other fields of byte 7 are only added to it (R91). -/
theorem buildStateFrame_carries_toggle (c : Config) (m : Mode) (f : FanSpeed) (w : Swing) (t mb hb toggle : Byte) :
    (buildStateFrame c m f w t mb hb toggle).b7 &&& toggle = toggle := by
  simp only [buildStateFrame, insertChecksum, unsummedStateFrame]
  ext k hk
  simp +contextual

/-- A received frame that changes POWER_ON carries the toggle bit (R114). -/
theorem toggle_of_receivedPower_ne {c : Config} {f : Frame} {p : Bool} (h : receivedPower c f p ≠ p) :
    f.b7 &&& c.toggleBit ≠ 0#8 := by
  unfold receivedPower at h
  split_ifs at h with ht
  · exact ht
  · exact absurd rfl h

/-- An instruction that changes POWER_ON sends the toggle or has received it. -/
theorem Effect.toggle_of_powerOn_ne {s t : State} (h : Effect s t) (ha : admissible s.cfg = true)
    (hp : t.powerOn ≠ s.powerOn) :
    (∃ sf cf, t.evt = s.evt ++ [.tx s.cfg.carrierHz (serialize s.cfg sf cf)] ∧ sf.b7 &&& s.cfg.toggleBit ≠ 0#8) ∨
    (t.evt = s.evt ++ [.notify] ∧ ∃ f, receiveDecode t.cfg t.rxw = .ok f ∧ f.b7 &&& s.cfg.toggleBit ≠ 0#8) := by
  cases h with
  | none | mode | fan | swing | temp | refusal | fault => exact absurd rfl hp
  | transmit _ _ c w mb hb =>
    rw [transmitChecked_eq] at hp ⊢
    refine .inl ⟨_, _, rfl, ?_⟩
    rw [encodePowerToggle_bit_of_change hp, buildStateFrame_carries_toggle]
    exact toggleBit_ne_zero ha
  | receive =>
    cases ho : receiveDecode s.cfg s.rxw with
    | ok f =>
      rw [ho] at hp
      exact .inr ⟨rfl, f, ho, toggle_of_receivedPower_ne hp⟩
    | noMatch | ckFail =>
      rw [ho] at hp
      exact absurd rfl hp

/-- Settles O53: between resets only an instruction can change POWER_ON. -/
theorem powerOnChangesOnlyWithToggle : Obligations.PowerOnChangesOnlyWithToggle := by
  intro s t ha h hr hp
  obtain ⟨rest, hi, -⟩ | ⟨-, items, port, rest, rfl | he⟩ := step_cases h
  · exact absurd (by simp [hi]) hr
  · exact absurd rfl hp
  · exact he.toggle_of_powerOn_ne ha hp

/-! ## The clock inputs (10_state.md R33; 60_exceptions.md R142) -/

/-- What TRANSMIT does while CLK_VALID is 0: hour and minute count as 0 (44_commands.md R125). -/
def transmitUnclocked (c w : Bool) (s : State) : State :=
  if isStuck s then s
  else if isWritten s then transmitChecked c w (bcdByte 0) (bcdByte 0) s
  else recordFault s

/-- TRANSMIT while CLK_VALID is 0, whatever hour and minute are driven. -/
theorem exec_transmit_unclocked (c w : Bool) (h m : Byte) (s : State) :
    exec (.transmit c w) (setClock (.driven false h m) s) =
      .next (transmitUnclocked c w (setClock (.driven false h m) s)) := by
  rw [exec_transmit, transmitUnclocked]
  split_ifs with hs hw
  · exact runCommand_of_stuck hs
  · rw [runCommand_of_ready (by simpa using hs), if_pos hw]
    rfl
  · rw [runCommand_of_ready (by simpa using hs), if_neg hw]

/-- A TRANSMIT that passed its checks looks at the clock inputs no more. -/
theorem transmitChecked_setClock (c w : Bool) (mb hb : Byte) (p : ClockPort) (s : State) :
    transmitChecked c w mb hb (setClock p s) = setClock p (transmitChecked c w mb hb s) := by
  rw [transmitChecked_eq, transmitChecked_eq]
  rfl

/-- TRANSMIT while CLK_VALID is 0 does the same beside any clock inputs. -/
theorem transmitUnclocked_setClock (c w : Bool) (p : ClockPort) (s : State) :
    transmitUnclocked c w (setClock p s) = setClock p (transmitUnclocked c w s) := by
  have hstuck : isStuck (setClock p s) = isStuck s := rfl
  have hwritten : isWritten (setClock p s) = isWritten s := rfl
  rw [transmitUnclocked, transmitUnclocked, hstuck, hwritten]
  split_ifs
  · rfl
  · exact transmitChecked_setClock c w _ _ p s
  · rfl

/-- Settles O34: both runs are the run that does not look at the clock inputs. -/
theorem invalidClockMakesNoDifference : Obligations.InvalidClockMakesNoDifference := by
  intro s t c w h m h' m' hexec
  have run (h m : Byte) : exec (.transmit c w) { s with clk := .driven false h m } =
      .next (setClock (.driven false h m) (transmitUnclocked c w s)) := by
    rw [← transmitUnclocked_setClock]
    exact exec_transmit_unclocked c w h m s
  rw [run] at hexec ⊢
  cases hexec
  rfl

/-! ## The agents between commands (10_state.md R33, R34; 70_reset_and_hazards.md R150) -/

/-- With nothing pending the block waits (R150). -/
theorem step_of_no_input {s : State} (h : s.inputs = []) : step s = .next s := by
  simp only [step, h]

/-- The receiver's write of RXW (R34). -/
theorem step_of_rxw {s : State} {items : List Item} {rest : List Input} (h : s.inputs = .rxw items :: rest) :
    step s = .next (setRxw items { s with inputs := rest }) := by
  simp only [step, h]

/-- The clock agent's drive (R33). -/
theorem step_of_clock {s : State} {port : ClockPort} {rest : List Input} (h : s.inputs = .clock port :: rest) :
    step s = .next (setClock port { s with inputs := rest }) := by
  simp only [step, h]

/-- Settles O7, input by input. -/
theorem otherAgentsBetweenCommands : Obligations.OtherAgentsBetweenCommands :=
  fun _ _ => ⟨step_of_no_input, fun _ => step_of_rxw, fun _ => step_of_clock⟩

/-! ## STATUS and the read port (10_state.md R17, R21, R31, R32; 60_exceptions.md R131) -/

/-- Five fields put at the places of STATUS are found there: bits 1:0, 2, 3, 4 and 7:5. -/
theorem packed_fields : ∀ (l : BitVec 2) (x f r : Bool) (k : BitVec 3),
    let w : Byte := l.setWidth 8 ||| flagBit x <<< 2 ||| flagBit f <<< 3 ||| flagBit r <<< 4 ||| k.setWidth 8 <<< 5
    w.extractLsb' 0 2 = l ∧ w.getLsbD 2 = x ∧ w.getLsbD 3 = f ∧ w.getLsbD 4 = r ∧ w.extractLsb' 5 3 = k := by
  decide

/-- The codes of LAST_RX fit two bits. -/
theorem lastRxCode_fits (l : LastRx) : ((lastRxCode l).setWidth 2).setWidth 8 = lastRxCode l := by cases l <;> rfl

/-- The codes of REASON fit three bits. -/
theorem reasonCode_fits (r : Reason) : ((reasonCode r).setWidth 3).setWidth 8 = reasonCode r := by cases r <;> rfl

/-- STATUS read back field by field. -/
theorem statusWord_fields (st : Status) :
    (statusWord st).extractLsb' 0 2 = (lastRxCode st.lastRx).setWidth 2 ∧ (statusWord st).getLsbD 2 = rxOk st ∧
    (statusWord st).getLsbD 3 = st.fault ∧ (statusWord st).getLsbD 4 = st.refused ∧
    (statusWord st).extractLsb' 5 3 = (reasonCode st.reason).setWidth 3 := by
  have h := packed_fields ((lastRxCode st.lastRx).setWidth 2) (rxOk st) st.fault st.refused
    ((reasonCode st.reason).setWidth 3)
  rwa [lastRxCode_fits, reasonCode_fits] at h

/-- Settles O47: STATUS packs its five fields, the codes as R31 and R131 number them. -/
theorem statusWordFields : Obligations.StatusWordFields := by
  intro st
  obtain ⟨hlast, hok, hfault, hrefused, hreason⟩ := statusWord_fields st
  refine ⟨hlast.trans ?_, ?_, hfault, hrefused, hreason.trans ?_⟩
  · cases st.lastRx <;> rfl
  · rw [hok, rxOk, beq_iff_eq]
  · cases st.reason <;> rfl

/-- The read port's mode encoding is R17's. -/
theorem modeBits_eq_modeCode (m : Mode) : modeBits m = modeCode m := by cases m <;> rfl

/-- The read port's fan encoding is R21's. -/
theorem fanBits_eq_fanCode (f : FanSpeed) : fanBits f = fanCode f := by cases f <;> rfl

/-- Settles O48, register by register. -/
theorem readPortHidesUnwritten : Obligations.ReadPortHidesUnwritten := fun s =>
  ⟨congrArg (ifWritten s.wrFan) (fanBits_eq_fanCode s.fan), rfl, rfl, modeBits_eq_modeCode s.mode,
    modeBits_eq_modeCode s.savedMode, rfl, rfl, rfl, rfl, rfl⟩

end Sys2Proof.Machine

/-! ## The two views of a frame (20_memory.md R42 to R44) -/

namespace Sys2Proof.Machine

@[simp] theorem frameBytes_length (f : Frame) : (frameBytes f).length = 8 := rfl

/-- A frame is determined by its bytes (R42). -/
theorem frameBytes_injective {f g : Frame} (h : frameBytes f = frameBytes g) : f = g := by
  cases f
  cases g
  simpa [frameBytes] using h

/-- Bit 8i + j of the 64-bit view is bit j of byte i: the branch of `wordOfFrame_getLsbD` for byte i (R44). -/
theorem wordOfFrame_getLsbD_byte (f : Frame) {i j : Nat} (hi : i < (frameBytes f).length) (hj : j < 8) :
    (wordOfFrame f).getLsbD (8 * i + j) = (frameBytes f)[i].getLsbD j := by
  rw [wordOfFrame_getLsbD]
  rw [frameBytes_length] at hi
  interval_cases i <;> simp (disch := omega) [frameBytes, if_pos, if_neg]

/-- Byte i of the frame read from a word is the word's bits from 8i on (R44). -/
theorem frameBytes_frameOfWord (w : FrameWord) :
    frameBytes (frameOfWord w) = (List.range 8).map fun i => w.extractLsb' (8 * i) 8 := rfl

/-- The eight bits of the 64-bit view from 8i on are byte i (R44). -/
theorem extractLsb'_wordOfFrame (f : Frame) {i : Nat} (hi : i < (frameBytes f).length) :
    (wordOfFrame f).extractLsb' (8 * i) 8 = (frameBytes f)[i] := by
  apply BitVec.eq_of_getLsbD_eq
  intro j hj
  rw [BitVec.getLsbD_extractLsb', decide_eq_true hj, Bool.true_and, wordOfFrame_getLsbD_byte f hi hj]

/-- From bytes to the view and back loses nothing (R44). -/
@[simp] theorem frameOfWord_wordOfFrame (f : Frame) : frameOfWord (wordOfFrame f) = f := by
  apply frameBytes_injective
  apply List.ext_getElem (by simp)
  intro i _ hi
  simp only [frameBytes_frameOfWord, List.getElem_map, List.getElem_range]
  exact extractLsb'_wordOfFrame f hi

/-- From the view to bytes and back loses nothing: every bit k is bit k % 8 of byte k / 8 on both sides (R44). -/
@[simp] theorem wordOfFrame_frameOfWord (w : FrameWord) : wordOfFrame (frameOfWord w) = w := by
  apply BitVec.eq_of_getLsbD_eq
  intro k hk
  have hi : k / 8 < (frameBytes (frameOfWord w)).length := by rw [frameBytes_length]; omega
  have hj : k % 8 < 8 := Nat.mod_lt k (by decide)
  have hbit := wordOfFrame_getLsbD_byte (frameOfWord w) hi hj
  simpa only [frameBytes_frameOfWord, List.getElem_map, List.getElem_range, BitVec.getLsbD_extractLsb', hj,
    decide_true, Bool.true_and, Nat.div_add_mod] using hbit

/-- Settles O26: the view's bits byte by byte, and the two round trips. -/
theorem frameViewsAgree : Obligations.FrameViewsAgree :=
  ⟨fun f i _ hi hj => ⟨(frameBytes f)[i], List.getElem?_eq_getElem hi, wordOfFrame_getLsbD_byte f hi hj⟩,
    frameOfWord_wordOfFrame, wordOfFrame_frameOfWord⟩

end Sys2Proof.Machine

/-! ## Decoder and encoder (30_encoding.md R56, R61, R69 to R72) -/

namespace Sys2Proof.Machine

/-- A 16-bit table word is decoded as a command (R72). -/
theorem decodeTableWord_command (w : CommandWord) : decodeTableWord 16 w.toNat = (decodeCommand w).toOption := by
  simp [decodeTableWord]

/-- A 64-bit table word is decoded as a frame (R72). -/
theorem decodeTableWord_frame (f : FrameWord) : decodeTableWord 64 f.toNat = (decodeFrame f).toOption := by
  simp [decodeTableWord]

/-- The decoder reads each field where the encoder put it. The one-bit operands are few enough to run; the wider ones
are read off the concatenation, whose widths simp must not add up. -/
theorem decodeTableWord_encode (i : Instr) : decodeTableWord i.nbits (encode i) = some i := by
  cases i with
  | setmode | setfan | settemp =>
    refine (decodeTableWord_command _).trans ?_
    simp (disch := omega) [decodeCommand, opcode, unlessReserved, Decoded.toOption,
      BitVec.extractLsb'_append_eq_of_add_le, BitVec.extractLsb'_append_eq_of_le, -Nat.reduceAdd, -BitVec.reduceAppend]
  | setswing vertical => cases vertical <;> rfl
  | transmit ceiling wall => cases ceiling <;> cases wall <;> rfl
  | receive => rfl
  | stateFrame | controlFrame =>
    refine (decodeTableWord_frame _).trans ?_
    simp (disch := omega) [decodeFrame, Decoded.toOption,
      BitVec.extractLsb'_append_eq_of_add_le, BitVec.extractLsb'_append_eq_of_le, -Nat.reduceAdd, -BitVec.reduceAppend]

/-- Settles O1; not even an illegal operand is lost. -/
theorem decodeOfEncodeIsTheInstruction : Obligations.DecodeOfEncodeIsTheInstruction :=
  fun i _ => decodeTableWord_encode i

/-- A field of one bit, as the encoder and as the decoder write it. -/
theorem bitOf_getLsbD {n : Nat} (w : BitVec n) (k : Nat) : bitOf (w.getLsbD k) = w.extractLsb' k 1 := by
  ext j hj
  obtain rfl : j = 0 := by omega
  simp [bitOf]

/-- A command word is its opcode, its reserved zeros and its operand side by side, which is how it is encoded (R70). -/
theorem encode_of_decodeCommand {w : CommandWord} {i : Instr} (h : decodeCommand w = .instr i) :
    encode i = w.toNat := by
  unfold decodeCommand unlessReserved at h
  dsimp only at h
  split_ifs at h with hop hz hop hz hop hz hop hz hop hz hop hz
  all_goals cases h
  all_goals
    rw [beq_iff_eq] at hz
    simp (disch := omega) only [encode, ← hop, ← hz, opcode, bitOf_getLsbD,
      BitVec.extractLsb'_append_extractLsb'_eq_extractLsb', BitVec.extractLsb'_eq_self]

/-- Only 64-bit instructions are decoded from a frame word, and each is encoded as its fields side by side
(R56, R61). -/
theorem nbits_encode_of_decodeFrame {f : FrameWord} {i : Instr} (h : decodeFrame f = .instr i) :
    i.nbits = 64 ∧ encode i = f.toNat := by
  unfold decodeFrame at h
  dsimp only at h
  split_ifs at h with hstate hcontrol hz
  · cases h
    refine ⟨rfl, ?_⟩
    simp (disch := omega) only [encode, ← hstate, BitVec.extractLsb'_append_extractLsb'_eq_extractLsb',
      BitVec.extractLsb'_eq_self]
  · cases h
    refine ⟨rfl, ?_⟩
    simp (disch := omega) only [encode, ← hcontrol, ← hz, BitVec.extractLsb'_append_extractLsb'_eq_extractLsb',
      BitVec.extractLsb'_eq_self]

/-- Settles O2, for command words and for frame words. -/
theorem acceptedWordIsItsEncoding : Obligations.AcceptedWordIsItsEncoding :=
  ⟨fun _ _ h => ⟨decodeCommand_nbits h, encode_of_decodeCommand h⟩, fun _ _ => nbits_encode_of_decodeFrame⟩

/-- Settles O3 by running the decoder. -/
theorem specWordsDecode : Obligations.SpecWordsDecode := by
  unfold Obligations.SpecWordsDecode
  decide

/-! ## Reserved and illegal command words (30_encoding.md R70, R71; 44_commands.md R120) -/

/-- A well-formed command is encoded as a legal word, row by row over its operands (R70). -/
theorem isLegalWord_encode {i : Instr} (hn : i.nbits = 16) (hi : i.wellFormed = true) :
    isLegalWord (BitVec.ofNat 16 (encode i)) := by
  unfold isLegalWord
  cases i with
  | setmode mode => clear hn; revert mode; decide
  | setfan fan => clear hn; revert fan; decide
  | setswing vertical => cases vertical <;> decide
  | settemp temp => clear hn hi; revert temp; decide +kernel
  | transmit ceiling wall => cases ceiling <;> cases wall <;> decide
  | receive => decide
  | stateFrame | controlFrame => cases hn

/-- A word that decodes to a well-formed command is legal, because it is that command's encoding. -/
theorem isLegalWord_of_decodeCommand {w : CommandWord} {i : Instr} (h : decodeCommand w = .instr i)
    (hi : i.wellFormed = true) : isLegalWord w := by
  have hlegal := isLegalWord_encode (decodeCommand_nbits h) hi
  rwa [encode_of_decodeCommand h, BitVec.ofNat_toNat, BitVec.setWidth_eq] at hlegal

/-- The command itself refuses an illegal operand, and just as the decoder refuses a word (R121, R122, R71). -/
theorem exec_of_not_wellFormed {i : Instr} (hi : i.wellFormed = false) (s : State) : exec i s = refuseWord s := by
  cases i with
  | setmode mode =>
    have hmode : modeOfBits mode = none := by
      rw [← Option.not_isSome_iff_eq_none, modeOfBits_isSome]
      simpa [Instr.wellFormed] using hi
    rw [exec_setmode, hmode]
    rfl
  | setfan fan =>
    have hfan : fanOfBits fan = none := by
      rw [← Option.not_isSome_iff_eq_none, fanOfBits_isSome]
      simpa [Instr.wellFormed] using hi
    rw [exec_setfan, hfan]
    rfl
  | setswing | settemp | transmit | receive | stateFrame | controlFrame => cases hi

/-- A word outside the legal ones is refused, by the decoder or by the command it decodes to (R71). -/
theorem stepCommand_of_not_legal {w : CommandWord} (hw : ¬ isLegalWord w) (s : State) :
    stepCommand w s = refuseWord s := by
  unfold stepCommand
  split
  · next i hd =>
    exact exec_of_not_wellFormed (Bool.eq_false_iff.2 fun hi => hw (isLegalWord_of_decodeCommand hd hi)) s
  · rfl

/-- The host's write of a word to CMD (R120). -/
theorem step_of_cmd {s : State} {w : CommandWord} {rest : List Input} (h : s.inputs = .cmd w :: rest) :
    step s = stepCommand w { s with inputs := rest } := by
  simp only [step, h]

/-- Settles O4: a block that is not stuck carries out the refusal of the word. -/
theorem illegalWordIsRefused : Obligations.IllegalWordIsRefused := by
  intro s w rest hi hs hw
  rw [step_of_cmd hi, stepCommand_of_not_legal hw]
  exact runCommand_of_ready hs

/-! ## The layout of a waveform (30_encoding.md R66, R67) -/

/-- Item j of a byte (R43). -/
theorem byteItems_getElem? (c : Config) (b : Byte) {j : Nat} (hj : j < 8) :
    (byteItems c b)[j]? = some (bitItem c (b.getLsbD j)) := by
  simp [byteItems, hj]

/-- Item 8i + j of a frame is bit j of byte i (R43, R44). -/
theorem frameItems_getElem?_bit (c : Config) (f : Frame) {i j : Nat} (hi : i < 8) (hj : j < 8) :
    (frameItems c f)[8 * i + j]? = some (dataItem c (frameBit f i j)) := by
  rw [frameItems_getElem? c f (by omega), dataItem_eq_bitItem, frameBit]

@[simp] theorem frameWaveform_length (c : Config) (f : Frame) : (frameWaveform c f).length = 67 := rfl

/-- The bits of a frame begin after its three header items (R67). -/
theorem frameWaveform_getElem?_bit (c : Config) (f : Frame) {i j : Nat} (hi : i < 8) (hj : j < 8) :
    (frameWaveform c f)[3 + 8 * i + j]? = some (dataItem c (frameBit f i j)) := by
  rw [frameWaveform, Nat.add_assoc, List.getElem?_append_right (Nat.le_add_right 3 _), headerItems_length,
    Nat.add_sub_cancel_left, frameItems_getElem?_bit c f hi hj]

/-- The trailer begins with eight zero bits (R104). -/
theorem trailerItems_getElem?_zero (c : Config) {j : Nat} (hj : j < 8) :
    (trailerItems c)[j]? = some (dataItem c false) := by
  rw [trailerItems, List.getElem?_append_left hj, byteItems_getElem? c _ hj, dataItem_eq_bitItem, BitVec.getLsbD_zero]

/-- A transmitted waveform begins with its decoys (R105). -/
theorem serialize_getElem?_decoy (c : Config) (sf cf : Frame) {k : Nat} (hk : k < c.decoyCount) :
    (serialize c sf cf)[k]? = some (decoyItem c) := by
  have hlen : k < (decoyItems c).length := by rwa [decoyItems_length]
  simp only [serialize, List.append_assoc]
  rw [List.getElem?_append_left hlen, decoyItems, List.getElem?_replicate_of_lt hk]

/-- A transmitted waveform without its decoys: the State Frame's waveform, the gap, the Control Frame, the trailer
(R105). -/
theorem serialize_drop_decoys (c : Config) (sf cf : Frame) :
    (serialize c sf cf).drop c.decoyCount =
      frameWaveform c sf ++ gapItem c :: (frameItems c cf ++ trailerItems c) := by
  rw [← decoyItems_length c]
  simp only [serialize, frameWaveform, List.append_assoc, List.drop_left, List.cons_append, List.nil_append]

/-- Item k after the decoys. -/
theorem serialize_getElem?_after_decoys (c : Config) (sf cf : Frame) (k : Nat) :
    (serialize c sf cf)[c.decoyCount + k]? =
      (frameWaveform c sf ++ gapItem c :: (frameItems c cf ++ trailerItems c))[k]? := by
  rw [← serialize_drop_decoys, List.getElem?_drop]

/-- Item k after the gap. -/
theorem serialize_getElem?_after_gap (c : Config) (sf cf : Frame) (k : Nat) :
    (serialize c sf cf)[c.decoyCount + (68 + k)]? = (frameItems c cf ++ trailerItems c)[k]? := by
  rw [serialize_getElem?_after_decoys, List.getElem?_append_right (by rw [frameWaveform_length]; omega),
    frameWaveform_length, show 68 + k - 67 = k + 1 by omega, List.getElem?_cons_succ]

/-- Settles O25: each index lies in one part of the waveform; the single items are read off by computation. -/
theorem transmittedWaveformLayout : Obligations.TransmittedWaveformLayout := by
  refine ⟨fun _ _ _ _ => ⟨rfl, rfl⟩, fun c sf cf => ?_⟩
  have item := serialize_getElem?_after_decoys c sf cf
  refine ⟨serialize_length c sf cf, fun k hk => serialize_getElem?_decoy c sf cf hk, item 0, item 1, item 2,
    ?stateBits, item 67, ?controlBits, ?zeroBits, item 140, ?presented⟩
  case stateBits =>
    intro i j hi hj
    rw [Nat.add_assoc, Nat.add_assoc, item, ← Nat.add_assoc,
      List.getElem?_append_left (by rw [frameWaveform_length]; omega)]
    exact frameWaveform_getElem?_bit c sf hi hj
  case controlBits =>
    intro i j hi hj
    rw [Nat.add_assoc, Nat.add_assoc, serialize_getElem?_after_gap,
      List.getElem?_append_left (by rw [frameItems_length]; omega)]
    exact frameItems_getElem?_bit c cf hi hj
  case zeroBits =>
    intro j hj
    rw [Nat.add_assoc, show 132 + j = 68 + (64 + j) by omega, serialize_getElem?_after_gap,
      List.getElem?_append_right (Nat.le_add_right 64 j), frameItems_length, Nat.add_sub_cancel_left]
    exact trailerItems_getElem?_zero c hj
  case presented =>
    rw [serialize_drop_decoys]
    exact List.take_left' (frameWaveform_length c sf)

/-! ## What receive_decode accepts (43_receive.md R112; 30_encoding.md R67, R68) -/

/-- Bit j of byte i, in the statements' words (R44). -/
theorem frameBit_eq {f : Frame} {i j : Nat} (hi : i < (frameBytes f).length) (hj : j < 8) :
    frameBit f i j = (frameBytes f)[i].getLsbD j :=
  wordOfFrame_getLsbD_byte f hi hj

/-- A frame is determined by its bits (R44). -/
theorem frame_ext_bits {f g : Frame} (h : ∀ i j, i < 8 → j < 8 → frameBit f i j = frameBit g i j) : f = g := by
  have hword : wordOfFrame f = wordOfFrame g := by
    apply BitVec.eq_of_getLsbD_eq
    intro k hk
    have hbit := h (k / 8) (k % 8) (by omega) (by omega)
    rwa [frameBit, frameBit, Nat.div_add_mod] at hbit
  rw [← frameOfWord_wordOfFrame f, hword, frameOfWord_wordOfFrame]

/-- A bit is read exactly where an item is there and reads as it (R112, R136). -/
theorem readBitAt_eq_some (c : Config) (rxw : List Item) (k : Nat) (x : Bool) :
    readBitAt c rxw k = some x ↔ ∃ it, rxw[k]? = some it ∧ readBit c it = some x := by
  unfold readBitAt
  cases rxw[k]? <;> simp

/-- `readStateFrame_eq_some` with the bytes numbered. -/
theorem readStateFrame_eq_some_iff_bytes (c : Config) (rxw : List Item) (f : Frame) :
    readStateFrame c rxw = some f ↔ f.b0 = sfHeader ∧
      ∀ i (hi : i < (frameBytes f).length), readByteAt c rxw (3 + 8 * i) = some (frameBytes f)[i] := by
  rw [readStateFrame_eq_some]
  refine and_congr_right' ⟨?_, fun h => ?_⟩
  · rintro ⟨h0, h1, h2, h3, h4, h5, h6, h7⟩ i hi
    rw [frameBytes_length] at hi
    interval_cases i <;> assumption
  · exact ⟨h 0 (by simp), h 1 (by simp), h 2 (by simp), h 3 (by simp), h 4 (by simp), h 5 (by simp), h 6 (by simp),
      h 7 (by simp)⟩

/-- `readStateFrame_eq_some` bit by bit. -/
theorem readStateFrame_eq_some_iff_bits (c : Config) (rxw : List Item) (f : Frame) :
    readStateFrame c rxw = some f ↔ f.b0 = sfHeader ∧
      ∀ i j, i < 8 → j < 8 → readBitAt c rxw (3 + 8 * i + j) = some (frameBit f i j) := by
  simp only [readStateFrame_eq_some_iff_bytes, readByteAt_eq_some]
  refine and_congr_right' ⟨fun h i j hi hj => ?_, fun h i hi j hj => ?_⟩
  · rw [frameBit_eq hi hj, h i hi j hj]
  · rw [← frameBit_eq hi hj, h i j hi hj]

/-- The two parts of `receive_decode`, headers and bytes, say what a waveform carries (R67, R112). -/
theorem carriesFrame_iff (c : Config) (rxw : List Item) (f : Frame) :
    carriesFrame c rxw f ↔ headersMatch c rxw = true ∧ readStateFrame c rxw = some f := by
  simp only [headersMatch_iff, itemMatchesAt_iff, readStateFrame_eq_some_iff_bits, readBitAt_eq_some,
    inWindow_iff_fits, and_assoc]
  rfl

/-- Settles O37, by what the headers, the bytes and the checksum give. -/
theorem receiveDecodeAcceptsExactlyFrames : Obligations.ReceiveDecodeAcceptsExactlyFrames := by
  intro c rxw
  simp only [carriesFrame_iff, receiveDecode]
  cases headersMatch c rxw with
  | false => simp
  | true =>
    cases readStateFrame c rxw with
    | none => simp
    | some f => cases hsum : stateChecksumOk f <;> simp [hsum]

/-- A frame's nominal waveform carries no other frame, because each item reads as the bit it was made for (R119). -/
theorem eq_of_carriesFrame_frameWaveform {c : Config} (hc : admissible c = true) {f g : Frame}
    (h : carriesFrame c (frameWaveform c f) g) : g = f := by
  obtain ⟨-, -, -, -, hbits⟩ := h
  apply frame_ext_bits
  intro i j hi hj
  obtain ⟨it, hit, hread⟩ := hbits i j hi hj
  rw [frameWaveform_getElem?_bit c f hi hj, Option.some.injEq] at hit
  rw [← hit, nominalItemReadsAsItsBit c _ hc, Option.some.injEq] at hread
  exact hread.symm

/-- At nominal durations a frame whose byte 0 is not SF_HEADER is NOMATCH (R68, R112). -/
theorem receiveDecode_frameWaveform_of_header_ne {c : Config} (hc : admissible c = true) {f : Frame}
    (hf : f.b0 ≠ sfHeader) : receiveDecode c (frameWaveform c f) = .noMatch := by
  obtain ⟨-, -, noMatch_iff⟩ := receiveDecodeAcceptsExactlyFrames c (frameWaveform c f)
  rw [noMatch_iff]
  intro g hg
  obtain rfl := eq_of_carriesFrame_frameWaveform hc hg
  obtain ⟨-, -, -, hb0, -⟩ := hg
  exact hf hb0

/-- RECEIVE with outcome NOMATCH (R113). -/
theorem exec_receive_of_noMatch {s : State} (hs : isStuck s = false) (h : receiveDecode s.cfg s.rxw = .noMatch) :
    exec .receive s = .next (releaseScratch (setLastRx .noMatch s)) := by
  rw [exec_receive, runCommand_of_ready hs, h]
  rfl

/-- Settles O46: byte 0 of a Control Frame is 0xA1. -/
theorem presentedControlFrameIsNoMatch : Obligations.PresentedControlFrameIsNoMatch := by
  intro s l k hs hc
  have hdecode : receiveDecode s.cfg (frameWaveform s.cfg (controlFrameOf l k)) = .noMatch :=
    receiveDecode_frameWaveform_of_header_ne hc (by decide : cfHeader ≠ sfHeader)
  exact ⟨_, _, _, exec_receive_of_noMatch (s := setRxw (frameWaveform s.cfg (controlFrameOf l k)) s) hs hdecode⟩

/-! ## BCD by its digits (30_encoding.md R59; 40_state_codec.md R79, R80; 20_memory.md R45) -/

/-- The high nibble is bits 7:4 (R45). -/
theorem highNibble_eq_div (b : Byte) : highNibble b = b.toNat / 16 := by
  rw [highNibble, BitVec.extractLsb'_toNat, Nat.shiftRight_eq_div_pow]
  omega

/-- The low nibble is bits 3:0 (R45). -/
theorem lowNibble_eq_mod (b : Byte) : lowNibble b = b.toNat % 16 := by
  rw [lowNibble, BitVec.extractLsb'_toNat, Nat.shiftRight_zero]

/-- The high nibble by a shift. -/
theorem shift_eq_highNibble (b : Byte) : (b >>> 4).toNat = highNibble b := by
  rw [highNibble_eq_div, BitVec.toNat_ushiftRight, Nat.shiftRight_eq_div_pow]

/-- The low nibble by a mask. -/
theorem mask_eq_lowNibble (b : Byte) : (b &&& 0x0F#8).toNat = lowNibble b := by
  rw [lowNibble_eq_mod, BitVec.toNat_and]
  exact Nat.and_two_pow_sub_one_eq_mod b.toNat 4

/-- The BCD byte as a number: tens and units do not overlap (R59). -/
theorem bcdByte_toNat {v : Nat} (h : v ≤ 99) : (bcdByte v).toNat = 2 ^ 4 * (v / 10) + v % 10 := by
  have hunits : v % 10 < 2 ^ 4 := by omega
  rw [Nat.two_pow_add_eq_or_of_lt hunits, bcdByte, BitVec.toNat_or, BitVec.toNat_shiftLeft, BitVec.toNat_ofNat,
    BitVec.toNat_ofNat, Nat.shiftLeft_eq]
  congr 1 <;> omega

/-- `decode_bcd` in its domain (R80). -/
theorem decodeBcd_toNat {b : Byte} (hh : highNibble b ≤ 9) (hl : lowNibble b ≤ 9) (c : Config) (draw : Byte) :
    (decodeBcd c draw b).toNat = 10 * highNibble b + lowNibble b := by
  rw [decodeBcd, if_pos ⟨hh, hl⟩, BitVec.toNat_ofNat, Nat.mod_eq_of_lt (by omega)]

/-- Settles O59: encoding, decoding, and which nibble is which. -/
theorem bcdDigitFormulas : Obligations.BcdDigitFormulas := by
  refine ⟨fun v hv => ?_, fun c draw b hh hl => ?_, fun b => ⟨highNibble_eq_div b, lowNibble_eq_mod b⟩⟩
  · have hbyte := bcdByte_toNat hv
    exact ⟨encodeBcd_of_le hv, by omega, by omega⟩
  · rw [shift_eq_highNibble] at hh ⊢
    rw [mask_eq_lowNibble] at hl ⊢
    exact decodeBcd_toNat hh hl c draw

end Sys2Proof.Machine

/-! ## Mode, fan and swing codes (40_state_codec.md R73 to R78, R87; 20_memory.md R45) -/

namespace Sys2Proof.Machine

/-- A test on the low nibble, as a mask or as a field (R45). -/
theorem mask_eq_setWidth_iff (b : Byte) (code : Nibble) :
    b &&& 0x0F#8 = code.setWidth 8 ↔ b.extractLsb' 0 4 = code := by
  rw [← BitVec.toNat_inj, mask_eq_lowNibble, lowNibble, BitVec.toNat_setWidth_of_le (by decide), BitVec.toNat_inj]

/-- A test on the high nibble, as a shift or as a field (R45). -/
theorem shift_toNat_eq_iff (b : Byte) (code : Nibble) : (b >>> 4).toNat = code.toNat ↔ b.extractLsb' 4 4 = code := by
  rw [shift_eq_highNibble, highNibble, BitVec.toNat_inj]

/-- `decode_mode` looks at the low nibble only, where each mode but Off has a code of its own (R73, R74). -/
theorem decodeMode_append_encodeMode {m : Mode} (hm : m ≠ .off) (fan : Nibble) :
    decodeMode (fan ++ encodeMode m) = m := by
  have hcode : (fan ++ encodeMode m : Byte).extractLsb' 0 4 = encodeMode m := BitVec.extractLsb'_append_eq_right
  rw [decodeMode, hcode]
  cases m with
  | off => exact absurd rfl hm
  | cool | dry | heat | heatCool | fanOnly => rfl

/-- Each fan code differs from those that `decode_fan_speed` tests before it (R8, R64, R76). -/
theorem fanCode_ne_tested_before {c : Config} (hc : admissible c = true) :
    c.fanLow ≠ c.fanAuto ∧
    (fanMedium ≠ c.fanAuto ∧ fanMedium ≠ c.fanLow) ∧
    (c.fanHigh ≠ c.fanAuto ∧ c.fanHigh ≠ c.fanLow ∧ c.fanHigh ≠ fanMedium) ∧
    (c.fanStrong ≠ c.fanAuto ∧ c.fanStrong ≠ c.fanLow ∧ c.fanStrong ≠ fanMedium ∧ c.fanStrong ≠ c.fanHigh) ∧
    (c.fanQuiet ≠ c.fanAuto ∧ c.fanQuiet ≠ c.fanLow ∧ c.fanQuiet ≠ fanMedium ∧ c.fanQuiet ≠ c.fanHigh ∧
      c.fanQuiet ≠ c.fanStrong) := by
  obtain ⟨-, -, -, -, hcodes⟩ := admissible_parts hc
  simp only [fanCodes, List.nodup_cons, List.mem_cons, not_or] at hcodes
  grind

/-- The chain of tests, on a code beside any mode nibble (R76). -/
theorem decodeFanSpeed_append (c : Config) (code mode : Nibble) :
    decodeFanSpeed c (code ++ mode) =
      if code = c.fanAuto then .auto else if code = c.fanLow then .low else if code = fanMedium then .medium
      else if code = c.fanHigh then .high else if code = c.fanStrong then .high
      else if code = c.fanQuiet then .quiet else .auto := by
  have hcode : (code ++ mode : Byte).extractLsb' 4 4 = code := BitVec.extractLsb'_append_eq_left
  rw [decodeFanSpeed, hcode]

/-- A fan speed decodes from its own code: the tests before it fail (R87). -/
theorem decodeFanSpeed_append_encodeFanSpeed {c : Config} (hc : admissible c = true) (f : FanSpeed) (mode : Nibble) :
    decodeFanSpeed c (encodeFanSpeed c f ++ mode) = f := by
  obtain ⟨hlow, hmedium, hhigh, -, hquiet⟩ := fanCode_ne_tested_before hc
  rw [decodeFanSpeed_append]
  cases f with
  | auto => simp [encodeFanSpeed]
  | low => simp [encodeFanSpeed, hlow]
  | medium => simp [encodeFanSpeed, hmedium]
  | high => simp [encodeFanSpeed, hhigh]
  | quiet => simp [encodeFanSpeed, hquiet]

/-- FAN_STRONG decodes to High (R76, R87). -/
theorem decodeFanSpeed_append_fanStrong {c : Config} (hc : admissible c = true) (mode : Nibble) :
    decodeFanSpeed c (c.fanStrong ++ mode) = .high := by
  obtain ⟨-, -, -, hstrong, -⟩ := fanCode_ne_tested_before hc
  simp [decodeFanSpeed_append, hstrong]

/-- No fan speed is sent as FAN_STRONG (R75). -/
theorem encodeFanSpeed_ne_fanStrong {c : Config} (hc : admissible c = true) (f : FanSpeed) :
    encodeFanSpeed c f ≠ c.fanStrong := by
  obtain ⟨-, -, -, ⟨hauto, hlow, hmedium, hhigh⟩, -, -, -, -, hquiet⟩ := fanCode_ne_tested_before hc
  cases f with
  | auto => exact hauto.symm
  | low => exact hlow.symm
  | medium => exact hmedium.symm
  | high => exact hhigh.symm
  | quiet => exact hquiet

/-- `decode_fan_swing` undoes `encode_fan_swing` (R87). -/
theorem decodeFanSwing_encodeFanSwing (w : Swing) : decodeFanSwing (encodeFanSwing w) = w := by cases w <;> decide

/-- Settles O16, from the round trip of each field. -/
theorem codecRoundTrips : Obligations.CodecRoundTrips :=
  ⟨fun _ hm fan => decodeMode_append_encodeMode hm fan, rfl,
    fun _ hc mode => ⟨fun f => decodeFanSpeed_append_encodeFanSpeed hc f mode, decodeFanSpeed_append_fanStrong hc mode⟩,
    decodeFanSwing_encodeFanSwing, rfl, rfl⟩

/-- Settles O14: the masks of the table are tests on the low nibble. -/
theorem modeCodesFollowTable : Obligations.ModeCodesFollowTable := by
  refine ⟨⟨rfl, rfl, rfl, rfl, rfl, rfl⟩, fun b => ⟨?_, decodeMode_ne_off b⟩⟩
  have cool : b &&& 0x0F#8 = 0x02#8 ↔ b.extractLsb' 0 4 = 0x2#4 := mask_eq_setWidth_iff b 0x2#4
  have dry : b &&& 0x0F#8 = 0x01#8 ↔ b.extractLsb' 0 4 = 0x1#4 := mask_eq_setWidth_iff b 0x1#4
  have heat : b &&& 0x0F#8 = 0x08#8 ↔ b.extractLsb' 0 4 = 0x8#4 := mask_eq_setWidth_iff b 0x8#4
  have heatCool : b &&& 0x0F#8 = 0x0A#8 ↔ b.extractLsb' 0 4 = 0xA#4 := mask_eq_setWidth_iff b 0xA#4
  simp only [cool, dry, heat, heatCool, decodeMode]

/-- Settles O15: the shifts of the chain are tests on the high nibble. -/
theorem fanCodesFollowChain : Obligations.FanCodesFollowChain := by
  refine ⟨fun c => ⟨rfl, rfl, rfl, rfl, rfl⟩, fun c f hc => encodeFanSpeed_ne_fanStrong hc f, fun c b => ?_⟩
  have medium : (b >>> 4).toNat = 0x4 ↔ b.extractLsb' 4 4 = fanMedium := shift_toNat_eq_iff b fanMedium
  simp only [shift_toNat_eq_iff, medium, decodeFanSpeed]

end Sys2Proof.Machine

/-! ## BCD, the temperature and the power toggle (40_state_codec.md R79 to R84, R86) -/

namespace Sys2Proof.Machine

/-- A byte is its two nibbles (R45). -/
theorem toNat_eq_nibbles (b : Byte) : b.toNat = 16 * highNibble b + lowNibble b := by
  rw [highNibble_eq_div, lowNibble_eq_mod]
  exact (Nat.div_add_mod b.toNat 16).symm

/-- The tens of a BCD byte (R59). -/
theorem highNibble_bcdByte {v : Nat} (h : v ≤ 99) : highNibble (bcdByte v) = v / 10 := by
  rw [highNibble_eq_div, bcdByte_toNat h]
  omega

/-- The units of a BCD byte (R59). -/
theorem lowNibble_bcdByte {v : Nat} (h : v ≤ 99) : lowNibble (bcdByte v) = v % 10 := by
  rw [lowNibble_eq_mod, bcdByte_toNat h]
  omega

/-- `decode_bcd` undoes the BCD byte (R86). -/
theorem decodeBcd_bcdByte {v : Nat} (h : v ≤ 99) (c : Config) (draw : Byte) :
    (decodeBcd c draw (bcdByte v)).toNat = v := by
  have htens := highNibble_bcdByte h
  have hunits := lowNibble_bcdByte h
  rw [decodeBcd_toNat (by omega) (by omega), htens, hunits]
  exact Nat.div_add_mod v 10

/-- The BCD byte of two decimal digits is the byte that has them as nibbles (R86). -/
theorem bcdByte_of_digits {b : Byte} (hh : highNibble b ≤ 9) (hl : lowNibble b ≤ 9) :
    bcdByte (10 * highNibble b + lowNibble b) = b := by
  rw [← BitVec.toNat_inj, bcdByte_toNat (by omega), toNat_eq_nibbles b]
  omega

/-- `decode_bcd` of a byte with a nibble above 9 under the policy draw (R80). -/
theorem decodeBcd_of_draw {c : Config} (hc : c.bcdMalformed = .draw) {b : Byte}
    (hb : 9 < highNibble b ∨ 9 < lowNibble b) (draw : Byte) : decodeBcd c draw b = draw := by
  rw [decodeBcd, if_neg (by omega), hc]

/-- `decode_bcd` of any byte under the policy formula; ten times a nibble plus a nibble fits a byte, so nothing wraps
(R80). -/
theorem decodeBcd_toNat_of_formula {c : Config} (hc : c.bcdMalformed = .formula) (draw b : Byte) :
    (decodeBcd c draw b).toNat = 10 * highNibble b + lowNibble b := by
  have hhigh : highNibble b < 16 := BitVec.isLt _
  have hlow : lowNibble b < 16 := BitVec.isLt _
  rw [decodeBcd, hc, ite_self, BitVec.toNat_ofNat, Nat.mod_eq_of_lt (by omega)]

/-- Settles O17: the digits of a value, and the value of two digits. -/
theorem bcdRoundTrip : Obligations.BcdRoundTrip := by
  refine fun c draw => ⟨fun v hv => ⟨bcdByte v, encodeBcd_of_le hv, decodeBcd_bcdByte hv c draw⟩, fun b hh hl => ?_⟩
  rw [decodeBcd_toNat hh hl, encodeBcd_of_le (by omega), bcdByte_of_digits hh hl]

/-- Settles O18: no encoding above 99, and a malformed byte under each policy. -/
theorem bcdOutsideDomain : Obligations.BcdOutsideDomain :=
  ⟨fun _ hv => encodeBcd_of_gt hv,
    fun _ draw b hb => ⟨fun hc => decodeBcd_of_draw hc hb draw, fun hc => decodeBcd_toNat_of_formula hc draw b⟩⟩

/-- Settles O19: the clamped value is in the domain of `encode_bcd`. -/
theorem encodedTemperatureIsClamped : Obligations.EncodedTemperatureIsClamped := fun t =>
  encodeBcd_of_le ((clampTemp_range t.toNat).2.trans (by decide))

/-- What `encode_power_toggle` returns and leaves: where POWER_ON disagrees with MODE, its negation agrees (R84). -/
theorem encodePowerToggle_eq (c : Config) (m : Mode) (p : Bool) :
    encodePowerToggle c m p =
      { bit := if decide (m ≠ .off) = p then 0#8 else c.toggleBit, powerOn := decide (m ≠ .off) } := by
  have hwant : (m != .off) = decide (m ≠ .off) := decide_not.symm
  rw [encodePowerToggle, hwant]
  by_cases h : decide (m ≠ .off) = p
  · rw [if_neg (not_not_intro h), if_pos h, h]
  · rw [if_pos h, if_neg h, Bool.eq_not_of_ne h]

/-- Settles O20: the second call finds POWER_ON as it wants it. -/
theorem powerToggleFollowsMode : Obligations.PowerToggleFollowsMode := by
  intro c m p
  simp only [encodePowerToggle_eq, if_true, and_self]

end Sys2Proof.Machine

/-! ## The frame builders and the State Frame checksum (41_frames_checksum.md R88 to R93, R95; 30_encoding.md R56) -/

namespace Sys2Proof.Machine

/-- Two nibbles put side by side, as the model writes a byte of two fields. -/
theorem low_or_high_eq_append (low high : Nibble) : low.setWidth 8 ||| high.setWidth 8 <<< 4 = high ++ low := by
  rw [BitVec.append_def, BitVec.shiftLeftZeroExtend_eq, BitVec.setWidth'_eq, BitVec.or_comm]

/-- A byte whose high nibble is 0 is its low nibble. -/
theorem mask_low_of_mask_high_eq_zero {b : Byte} (h : b &&& 0xF0#8 = 0#8) : b &&& 0x0F#8 = b := by
  calc b &&& 0x0F#8 = b &&& 0xF0#8 ||| b &&& 0x0F#8 := by rw [h, BitVec.zero_or]
    _ = b &&& 0xFF#8 := BitVec.and_or_distrib_left.symm
    _ = b := BitVec.and_allOnes

/-- Byte 7 of the State Frame has no checksum nibble before one is inserted, for a toggle in the low nibble (R91). -/
theorem unsummedStateFrame_b7_high (c : Config) (m : Mode) (f : FanSpeed) (w : Swing) (t mb hb : Byte) {toggle : Byte}
    (h : toggle &&& 0xF0#8 = 0#8) : (unsummedStateFrame c m f w t mb hb toggle).b7 &&& 0xF0#8 = 0#8 := by
  have hfields : (constBit ||| encodeFanSwing w) &&& 0xF0#8 = 0#8 := by cases w <;> decide
  rw [unsummedStateFrame, BitVec.or_assoc, BitVec.and_or_distrib_right, h, hfields, BitVec.zero_or]

/-- The inserted nibble takes the place of a high nibble that was 0 (R91). -/
theorem insertChecksum_b7 {f : Frame} (h : f.b7 &&& 0xF0#8 = 0#8) :
    (insertChecksum f).b7 = stateChecksum f ++ f.b7.extractLsb' 0 4 := by
  have hlow : f.b7 = (f.b7.extractLsb' 0 4).setWidth 8 := by
    rw [← (mask_eq_setWidth_iff f.b7 _).2 rfl, mask_low_of_mask_high_eq_zero h]
  rw [← low_or_high_eq_append, ← hlow, insertChecksum]

/-- Inserting the checksum keeps the low nibble of byte 7. -/
theorem lowNibble_insertChecksum {f : Frame} (h : f.b7 &&& 0xF0#8 = 0#8) :
    lowNibble (insertChecksum f).b7 = lowNibble f.b7 := by
  rw [insertChecksum_b7 h, lowNibble, BitVec.extractLsb'_append_eq_right, lowNibble]

/-- Inserting the checksum makes it the high nibble of byte 7. -/
theorem highNibble_insertChecksum {f : Frame} (h : f.b7 &&& 0xF0#8 = 0#8) :
    highNibble (insertChecksum f).b7 = (stateChecksum f).toNat := by
  rw [insertChecksum_b7 h, highNibble, BitVec.extractLsb'_append_eq_left]

/-- The checksum of a frame without one leaves out nothing but a nibble that is 0 (R89). -/
theorem stateChecksum_toNat {f : Frame} (h : f.b7 &&& 0xF0#8 = 0#8) :
    (stateChecksum f).toNat = (nibbleSum [f.b0, f.b1, f.b2, f.b3, f.b4, f.b5, f.b6] + lowNibble f.b7) % 16 := by
  have hhigh : highNibble f.b7 = 0 := by
    rw [highNibble_eq_div, ← mask_low_of_mask_high_eq_zero h, mask_eq_lowNibble, lowNibble_eq_mod]
    omega
  simp only [stateChecksum, frameBytes, nibbleSum, BitVec.toNat_ofNat, List.map_cons, List.map_nil, List.sum_cons,
    List.sum_nil, hhigh]
  omega

/-- A frame validates once the checksum is inserted: the validator takes the sum that the builder took (R95). -/
theorem stateChecksumOk_insertChecksum {f : Frame} (h : f.b7 &&& 0xF0#8 = 0#8) :
    stateChecksumOk (insertChecksum f) = true := by
  rw [stateChecksumOk, lowNibble_insertChecksum h, highNibble_insertChecksum h, stateChecksum_toNat h, insertChecksum,
    beq_self_eq_true]

/-- A State Frame built with a toggle in the low nibble validates (R95). -/
theorem stateChecksumOk_buildStateFrame (c : Config) (m : Mode) (f : FanSpeed) (w : Swing) (t mb hb : Byte)
    {toggle : Byte} (h : toggle &&& 0xF0#8 = 0#8) : stateChecksumOk (buildStateFrame c m f w t mb hb toggle) = true :=
  stateChecksumOk_insertChecksum (unsummedStateFrame_b7_high c m f w t mb hb h)

/-- The low nibble of byte 7 of a built State Frame: toggle, constant bit and swing bit (R56, R91). -/
theorem buildStateFrame_b7_low (c : Config) (m : Mode) (f : FanSpeed) (w : Swing) (t mb hb : Byte) {toggle : Byte}
    (h : toggle &&& 0xF0#8 = 0#8) :
    (buildStateFrame c m f w t mb hb toggle).b7 &&& 0x0F#8 = toggle ||| constBit ||| encodeFanSwing w := by
  have hhigh := unsummedStateFrame_b7_high c m f w t mb hb h
  rw [← BitVec.toNat_inj, mask_eq_lowNibble, buildStateFrame, lowNibble_insertChecksum hhigh, ← mask_eq_lowNibble,
    mask_low_of_mask_high_eq_zero hhigh, unsummedStateFrame]

/-- The nibbles of a byte, added, as the model adds them (R88). -/
theorem nibblesOf_eq (b : Byte) : nibblesOf b = highNibble b + lowNibble b := by
  rw [nibblesOf, highNibble_eq_div, lowNibble_eq_mod]

/-- The sum of the statements is the sum of the validator (R88, R90). -/
theorem expectedChecksum_eq (f : Frame) :
    expectedChecksum f = (nibbleSum [f.b0, f.b1, f.b2, f.b3, f.b4, f.b5, f.b6] + lowNibble f.b7) % 16 := by
  simp only [expectedChecksum, nibblesOf_eq, lowNibble_eq_mod f.b7, nibbleSum, List.map_cons, List.map_nil,
    List.sum_cons, List.sum_nil, Nat.add_assoc, Nat.zero_add]

/-- What the validator tests (R90). -/
theorem stateChecksumOk_iff (f : Frame) : stateChecksumOk f = true ↔ f.b7.toNat / 16 = expectedChecksum f := by
  rw [stateChecksumOk, beq_iff_eq, ← expectedChecksum_eq, highNibble_eq_div, eq_comm]

/-- TOGGLE_BIT is a bit of the low nibble (00_scope.md R8). -/
theorem toggleBit_mask_high {c : Config} (h : admissible c = true) : c.toggleBit &&& 0xF0#8 = 0#8 := by
  obtain ⟨-, -, -, htoggle, -⟩ := admissible_parts h
  rcases htoggle with h | h <;> rw [h] <;> decide

/-- Settles O21: byte 7 by its nibbles, of which the high one is what the validator tests; the other bytes are the
builder's. -/
theorem builtStateFrameBytes : Obligations.BuiltStateFrameBytes :=
  ⟨stateChecksumOk_iff, fun c m f w t mb hb _ h =>
    ⟨rfl, low_or_high_eq_append (encodeMode m) (encodeFanSpeed c f), rfl, rfl, rfl, rfl, rfl,
      buildStateFrame_b7_low c m f w t mb hb h,
      (stateChecksumOk_iff _).1 (stateChecksumOk_buildStateFrame c m f w t mb hb h)⟩⟩

/-- Settles O22: either toggle is in the low nibble. -/
theorem builtStateFrameValidates : Obligations.BuiltStateFrameValidates := by
  rintro c m f w t mb hb _ hc (rfl | rfl)
  · exact stateChecksumOk_buildStateFrame c m f w t mb hb (by decide)
  · exact stateChecksumOk_buildStateFrame c m f w t mb hb (toggleBit_mask_high hc)

/-- The Control Frame checksum is the sum of the bytes as bytes: they wrap as it does (R92). -/
theorem controlChecksum_eq (f : Frame) :
    controlChecksum f = f.b0 + (f.b1 + (f.b2 + (f.b3 + (f.b4 + (f.b5 + f.b6))))) := by
  simp only [controlChecksum, List.map_cons, List.map_nil, List.sum_cons, List.sum_nil, Nat.add_zero, BitVec.ofNat_add,
    BitVec.ofNat_toNat, BitVec.setWidth_eq]

/-- Settles O24: in the sum of the first seven bytes, five are 0. -/
theorem builtControlFrameBytes : Obligations.BuiltControlFrameBytes := by
  intro c ceiling wall
  rw [buildControlFrame, controlChecksum_eq]
  simp only [unsummedControlFrame, BitVec.add_zero]
  rfl

end Sys2Proof.Machine

/-! ## What the State Frame checksum detects (41_frames_checksum.md R96) -/

namespace Sys2Proof.Machine

/-- Nibble i of a frame's 64-bit view: the low nibble of byte i / 2 where i is even, its high nibble where i is odd
(20_memory.md R44, R45). -/
def wordNibble (w : FrameWord) (i : Nat) : Nat := (w.extractLsb' (4 * i) 4).toNat

/-- A nibble is below 16. -/
theorem wordNibble_lt (w : FrameWord) (i : Nat) : wordNibble w i < 16 := BitVec.isLt _

/-- The low nibble of eight bits of a word is the first four of them. -/
theorem lowNibble_extractLsb' (w : FrameWord) (s : Nat) :
    lowNibble (w.extractLsb' s 8) = (w.extractLsb' s 4).toNat := by
  rw [lowNibble, BitVec.toNat_inj]
  ext j hj
  have hbyte : j < 8 := by omega
  simp [hbyte]

/-- The high nibble of eight bits of a word is the last four of them. -/
theorem highNibble_extractLsb' (w : FrameWord) (s : Nat) :
    highNibble (w.extractLsb' s 8) = (w.extractLsb' (s + 4) 4).toNat := by
  rw [highNibble, BitVec.toNat_inj]
  ext j hj
  have hbyte : 4 + j < 8 := by omega
  simp [hbyte, Nat.add_assoc]

/-- The validator's sum is that of the nibbles 0 to 14 of the 64-bit view (R90). -/
theorem nibbleSum_frameOfWord (w : FrameWord) :
    nibbleSum [(frameOfWord w).b0, (frameOfWord w).b1, (frameOfWord w).b2, (frameOfWord w).b3, (frameOfWord w).b4,
      (frameOfWord w).b5, (frameOfWord w).b6] + lowNibble (frameOfWord w).b7
      = ∑ i ∈ Finset.range 15, wordNibble w i := by
  simp only [nibbleSum, List.map_cons, List.map_nil, List.sum_cons, List.sum_nil, frameOfWord, lowNibble_extractLsb',
    highNibble_extractLsb', Finset.sum_range_succ, Finset.sum_range_zero, wordNibble, Nat.reduceMul, Nat.reduceAdd]
  omega

/-- The validator on the 64-bit view: nibble 15 is the sum of the other fifteen modulo 16 (R90). -/
theorem stateChecksumOk_frameOfWord_iff (w : FrameWord) :
    stateChecksumOk (frameOfWord w) = true ↔ (∑ i ∈ Finset.range 15, wordNibble w i) % 16 = wordNibble w 15 := by
  have hlast : highNibble (frameOfWord w).b7 = wordNibble w 15 := highNibble_extractLsb' w 56
  rw [stateChecksumOk, beq_iff_eq, nibbleSum_frameOfWord, hlast]

/-- Two valid frames that agree in all nibbles but one agree in that one too: the sum determines it modulo 16. -/
theorem wordNibble_eq_of_stateChecksumOk {v w : FrameWord} (hv : stateChecksumOk (frameOfWord v) = true)
    (hw : stateChecksumOk (frameOfWord w) = true) {k : Nat} (hk : k < 16)
    (h : ∀ i, i ≠ k → wordNibble v i = wordNibble w i) : wordNibble v k = wordNibble w k := by
  rw [stateChecksumOk_frameOfWord_iff] at hv hw
  by_cases hlast : k = 15
  · have hsum : ∑ i ∈ Finset.range 15, wordNibble v i = ∑ i ∈ Finset.range 15, wordNibble w i :=
      Finset.sum_congr rfl fun i hi => h i (by rw [Finset.mem_range] at hi; omega)
    rw [hlast, ← hv, ← hw, hsum]
  · have hmem : k ∈ Finset.range 15 := Finset.mem_range.2 (by omega)
    have hrest :
        ∑ i ∈ (Finset.range 15).erase k, wordNibble v i = ∑ i ∈ (Finset.range 15).erase k, wordNibble w i :=
      Finset.sum_congr rfl fun i hi => h i (Finset.ne_of_mem_erase hi)
    rw [← Finset.add_sum_erase _ _ hmem, h 15 (Ne.symm hlast)] at hv
    rw [← Finset.add_sum_erase _ _ hmem] at hw
    have hltv := wordNibble_lt v k
    have hltw := wordNibble_lt w k
    omega

/-- Flipping the bits of a mask leaves a nibble as it was exactly where the mask has no bit in it. -/
theorem wordNibble_xor_eq_iff (w mask : FrameWord) (i : Nat) :
    wordNibble (w ^^^ mask) i = wordNibble w i ↔ mask.extractLsb' (4 * i) 4 = 0#4 := by
  have hcancel := BitVec.xor_right_inj (x := mask.extractLsb' (4 * i) 4) (y := 0#4) (w.extractLsb' (4 * i) 4)
  rwa [BitVec.xor_zero, ← BitVec.extractLsb'_xor, ← BitVec.toNat_inj] at hcancel

/-- Bit k lies in nibble k / 4 and in no other. -/
theorem oneBit_nibble_eq_zero_iff {k : Nat} (hk : k < 64) (i : Nat) :
    (1#64 <<< k).extractLsb' (4 * i) 4 = 0#4 ↔ i ≠ k / 4 := by
  rw [← BitVec.twoPow_eq]
  constructor
  · rintro h rfl
    have hbit := congrArg (BitVec.getLsbD · (k % 4)) h
    simp [hk, Nat.div_add_mod, Nat.mod_lt] at hbit
  · intro h
    apply BitVec.eq_of_getLsbD_eq
    intro j hj
    have hne : k ≠ 4 * i + j := by omega
    simp [BitVec.getLsbD_extractLsb', BitVec.getLsbD_twoPow, hne]

/-- Settles O23: the flipped frame would agree with the valid one in all nibbles but the flipped bit's, so in that one
too. -/
theorem singleBitErrorIsDetected : Obligations.SingleBitErrorIsDetected := by
  intro f k hf hk
  rw [← frameOfWord_wordOfFrame f] at hf
  rw [Bool.eq_false_iff]
  intro hflipped
  have hother (i : Nat) (hi : i ≠ k / 4) :
      wordNibble (wordOfFrame f ^^^ 1#64 <<< k) i = wordNibble (wordOfFrame f) i :=
    (wordNibble_xor_eq_iff _ _ i).2 ((oneBit_nibble_eq_zero_iff hk i).2 hi)
  have hsame := wordNibble_eq_of_stateChecksumOk hflipped hf (by omega : k / 4 < 16) hother
  exact (oneBit_nibble_eq_zero_iff hk (k / 4)).1 ((wordNibble_xor_eq_iff _ _ _).1 hsame) rfl

end Sys2Proof.Machine

/-! ## The on-air length of a waveform (42_serializer.md R107) -/

namespace Sys2Proof.Machine

@[simp] theorem onAirTime_nil : onAirTime [] = 0 := rfl

@[simp] theorem onAirTime_cons (it : Item) (items : List Item) :
    onAirTime (it :: items) = it.mark.toNat + it.space.toNat + onAirTime items := by
  simp [onAirTime]

@[simp] theorem onAirTime_append (xs ys : List Item) : onAirTime (xs ++ ys) = onAirTime xs + onAirTime ys := by
  simp [onAirTime]

@[simp] theorem onAirTime_replicate (n : Nat) (it : Item) :
    onAirTime (List.replicate n it) = n * (it.mark.toNat + it.space.toNat) := by
  simp [onAirTime]

/-- Data items take a bit mark each, the space of a 1 for each 1 bit and the space of a 0 for every other bit (R98). -/
theorem onAirTime_map_bitItem (c : Config) (bit : Nat → Bool) (ks : List Nat) :
    onAirTime (ks.map fun k => bitItem c (bit k)) =
      ks.length * c.bitMark.toNat + (oneSpace c).toNat * (ks.filter bit).length
        + (zeroSpace c).toNat * (ks.length - (ks.filter bit).length) := by
  induction ks with
  | nil => simp
  | cons k ks ih =>
    rw [List.map_cons, onAirTime_cons, ih]
    cases hk : bit k
    · have hzeros : ks.length + 1 - (ks.filter bit).length = ks.length - (ks.filter bit).length + 1 :=
        Nat.succ_sub (List.length_filter_le bit ks)
      rw [List.filter_cons_of_neg (by simp [hk]), List.length_cons, hzeros]
      simp only [bitItem, Bool.false_eq_true, if_false]
      ring
    · rw [List.filter_cons_of_pos hk, List.length_cons, List.length_cons, Nat.succ_sub_succ]
      simp only [bitItem, if_true]
      ring

/-- A frame has 64 bits. -/
theorem oneBits_le (f : Frame) : oneBits f ≤ 64 := List.length_filter_le _ (List.range 64)

/-- The on-air length of a frame's 64 items (R100). -/
theorem onAirTime_frameItems (c : Config) (f : Frame) :
    onAirTime (frameItems c f) =
      64 * c.bitMark.toNat + (oneSpace c).toNat * oneBits f + (zeroSpace c).toNat * (64 - oneBits f) := by
  rw [frameItems_eq_map, onAirTime_map_bitItem, List.length_range, oneBits]

/-- The trailing zero byte is eight zero bits (R104). -/
theorem byteItems_zero (c : Config) : byteItems c 0#8 = List.replicate 8 (bitItem c false) := rfl

/-- The on-air length of the trailer: eight zero bits and the closing header-2 (R104). -/
theorem onAirTime_trailerItems (c : Config) :
    onAirTime (trailerItems c) =
      8 * c.bitMark.toNat + (zeroSpace c).toNat * 8 + (c.hdr2Mark.toNat + c.hdr2Space.toNat) := by
  rw [trailerItems, byteItems_zero, onAirTime_append, onAirTime_replicate, onAirTime_cons, onAirTime_nil]
  simp only [bitItem, header2Item, Bool.false_eq_true, if_false]
  ring

/-- The on-air length of a transmitted waveform (R107): the 0 bits of the two frames and the trailer's eight are the
bits of 136 that are not 1. -/
theorem onAirTime_serialize (c : Config) (sf cf : Frame) :
    onAirTime (serialize c sf cf) =
      c.decoyCount * (c.decoyMark.toNat + c.decoySpace.toNat) + 2 * (c.hdr1Mark.toNat + c.hdr1Space.toNat)
        + 2 * (c.hdr2Mark.toNat + c.hdr2Space.toNat) + (c.gapMark.toNat + c.gapSpace.toNat)
        + 136 * c.bitMark.toNat + (oneSpace c).toNat * (oneBits sf + oneBits cf)
        + (zeroSpace c).toNat * (136 - (oneBits sf + oneBits cf)) := by
  have hsf := oneBits_le sf
  have hcf := oneBits_le cf
  have hzeros : 136 - (oneBits sf + oneBits cf) = (64 - oneBits sf) + (64 - oneBits cf) + 8 := by omega
  simp only [serialize, onAirTime_append, decoyItems, onAirTime_replicate, headerItems, onAirTime_cons, onAirTime_nil,
    onAirTime_frameItems, onAirTime_trailerItems, decoyItem, header1Item, header2Item, gapItem, hzeros]
  ring

/-- Settles O27: the sum of R107, in which the default timing leaves arithmetic with at most 128 bits that are 1. -/
theorem onAirLength : Obligations.OnAirLength := by
  refine ⟨onAirTime_serialize, fun dm ds mc mw sf cf => ?_⟩
  have hsf := oneBits_le sf
  have hcf := oneBits_le cf
  constructor <;> simp only [onAirTime_serialize, configWith, oneSpace, zeroSpace, BitVec.toNat_ofNat] <;> omega

end Sys2Proof.Machine

/-! ## What a waveform's outcome depends on (43_receive.md R111, R112, R116, R118, R119; 30_encoding.md R67) -/

namespace Sys2Proof.Machine

/-- Only the first 67 items are read (R116). -/
theorem carriesFrame_take (c : Config) (rxw : List Item) (f : Frame) :
    carriesFrame c (rxw.take 67) f ↔ carriesFrame c rxw f := by
  have item (k : Nat) (hk : k < 67) : (rxw.take 67)[k]? = rxw[k]? := List.getElem?_take_of_lt hk
  have bits (i j : Nat) (hi : i < 8) (hj : j < 8) : (rxw.take 67)[3 + 8 * i + j]? = rxw[3 + 8 * i + j]? :=
    item _ (by omega)
  simp +contextual only [carriesFrame, itemFits, item, bits, Nat.reduceLT]

/-- Waveforms that carry the same frames have the same outcome (R112). -/
theorem receiveDecode_congr {c : Config} {rxw rxw' : List Item}
    (h : ∀ f, carriesFrame c rxw f ↔ carriesFrame c rxw' f) : receiveDecode c rxw = receiveDecode c rxw' := by
  obtain ⟨ok_iff, ckFail_iff, noMatch_iff⟩ := receiveDecodeAcceptsExactlyFrames c rxw
  simp only [h] at ok_iff ckFail_iff noMatch_iff
  obtain ⟨ok_iff', ckFail_iff', noMatch_iff'⟩ := receiveDecodeAcceptsExactlyFrames c rxw'
  cases ho : receiveDecode c rxw' with
  | ok f => exact (ok_iff f).2 ((ok_iff' f).1 ho)
  | noMatch => exact noMatch_iff.2 (noMatch_iff'.1 ho)
  | ckFail => exact ckFail_iff.2 (ckFail_iff'.1 ho)

/-- The outcome is that of the first 67 items (R116). -/
theorem receiveDecode_take (c : Config) (rxw : List Item) : receiveDecode c (rxw.take 67) = receiveDecode c rxw :=
  receiveDecode_congr (carriesFrame_take c rxw)

/-- Settles O38: both outcomes are that of the first 67 items. -/
theorem itemsFromSixtySevenAreIgnored : Obligations.ItemsFromSixtySevenAreIgnored := by
  intro c rxw rxw' h
  rw [← receiveDecode_take, h, receiveDecode_take]

/-- At nominal durations every item fits its windows and reads as the bit it was made for, so a State Frame's waveform
carries it (R67, R119). -/
theorem carriesFrame_frameWaveform {c : Config} (hc : admissible c = true) {f : Frame} (hf : f.b0 = sfHeader) :
    carriesFrame c (frameWaveform c f) f := by
  obtain ⟨htol, -⟩ := admissible_parts hc
  have self (v : Duration) : fits c v v := (inWindow_iff_fits c v v).1 (inWindow_self htol v)
  refine ⟨⟨_, rfl, self _, self _⟩, ⟨_, rfl, self _, self _⟩, ⟨_, rfl, self _, self _⟩, hf, fun i j hi hj => ?_⟩
  exact ⟨_, frameWaveform_getElem?_bit c f hi hj, nominalItemReadsAsItsBit c _ hc⟩

/-- A valid State Frame's nominal waveform decodes OK to the frame (R112, R119). -/
theorem receiveDecode_frameWaveform {c : Config} (hc : admissible c = true) {f : Frame} (hf : f.b0 = sfHeader)
    (hsum : stateChecksumOk f = true) : receiveDecode c (frameWaveform c f) = .ok f :=
  ((receiveDecodeAcceptsExactlyFrames c _).1 f).2 ⟨carriesFrame_frameWaveform hc hf, hsum⟩

/-- Settles O42: without its decoys a transmitted waveform begins with the State Frame's nominal waveform, and what
follows that is not read. -/
theorem transmittedFrameIsReceived : Obligations.TransmittedFrameIsReceived := by
  intro c sf cf hc hf hsum
  rw [← receiveDecode_take, serialize_drop_decoys, List.take_left' (frameWaveform_length c sf)]
  exact receiveDecode_frameWaveform hc hf hsum

/-- The decoy item fits no header-1, so a waveform that begins with it carries no frame (R7, R118). -/
theorem receiveDecode_of_decoy {c : Config} (hc : admissible c = true) {rxw : List Item}
    (h : rxw[0]? = some (decoyItem c)) : receiveDecode c rxw = .noMatch := by
  obtain ⟨-, -, noMatch_iff⟩ := receiveDecodeAcceptsExactlyFrames c rxw
  rw [noMatch_iff]
  rintro f ⟨⟨it, hit, hmark, hspace⟩, -⟩
  obtain rfl : decoyItem c = it := Option.some.inj (h.symm.trans hit)
  obtain ⟨-, -, hdecoy, -⟩ := (admissible_iff c).1 hc
  exact hdecoy ((decoyMatchesHeader_iff c).2 ⟨hmark, hspace⟩)

/-- Settles O41: a transmitted waveform begins with a decoy. -/
theorem decoyGuardsAgainstSelfReception : Obligations.DecoyGuardsAgainstSelfReception := fun c hc =>
  ⟨fun _ h => receiveDecode_of_decoy hc h,
    fun hcount sf cf => receiveDecode_of_decoy hc (serialize_getElem?_decoy c sf cf hcount)⟩

/-- What `read_bit` tests of an item for either bit (R110, R111). -/
theorem itemMatches_bitItem_iff (c : Config) (it : Item) (x : Bool) :
    itemMatches c it (bitItem c x) = true ↔
      fits c it.mark c.bitMark ∧ fits c it.space (if x then oneSpace c else zeroSpace c) := by
  simp only [itemMatches, bitItem, Bool.and_eq_true, inWindow_iff_fits]

/-- Settles O35: the three clauses are the three branches of the chain. -/
theorem readBitTestsWindows : Obligations.ReadBitTestsWindows := by
  intro c it
  have one : itemMatches c it (bitItem c true) = true ↔ fits c it.mark c.bitMark ∧ fits c it.space (oneSpace c) :=
    itemMatches_bitItem_iff c it true
  have zero : itemMatches c it (bitItem c false) = true ↔ fits c it.mark c.bitMark ∧ fits c it.space (zeroSpace c) :=
    itemMatches_bitItem_iff c it false
  unfold readBit
  refine ⟨fun hm h1 => ?_, fun hm h1 h0 => ?_, fun h => ?_⟩
  · rw [if_pos (one.2 ⟨hm, h1⟩)]
  · rw [if_neg fun h => h1 (one.1 h).2, if_pos (zero.2 ⟨hm, h0⟩)]
  · rw [if_neg (mt one.1 (by tauto)), if_neg (mt zero.1 (by tauto))]

end Sys2Proof.Machine

/-! ## What RECEIVE does (43_receive.md R113 to R115) -/

namespace Sys2Proof.Machine

/-- RECEIVE with outcome CKFAIL (R113). -/
theorem exec_receive_of_ckFail {s : State} (hs : isStuck s = false) (h : receiveDecode s.cfg s.rxw = .ckFail) :
    exec .receive s = .next (releaseScratch (setLastRx .ckFail (emit .warnChecksum s))) := by
  rw [exec_receive, runCommand_of_ready hs, h]
  rfl

/-- RECEIVE with outcome OK (R113, R114). -/
theorem exec_receive_of_ok {s : State} {f : Frame} (hs : isStuck s = false) (h : receiveDecode s.cfg s.rxw = .ok f) :
    exec .receive s = .next (afterTransition f (Config.drawByte s.draws) (frameOfDraw (Config.drawSf s.draws))
      (frameOfDraw (Config.drawCf s.draws)) (s.draws + 1) s) := by
  rw [exec_receive, runCommand_of_ready hs, h, receive_ok_eq]
  rfl

/-- Settles O39, outcome by outcome. -/
theorem rejectedReceiveChangesNoRegister : Obligations.RejectedReceiveChangesNoRegister := fun _ hs =>
  ⟨fun h => ⟨_, _, _, exec_receive_of_noMatch hs h⟩, fun h => ⟨_, _, _, exec_receive_of_ckFail hs h⟩⟩

/-- Settles O40: the draw is the one a malformed temperature byte would take. -/
theorem acceptedReceiveMakesTransition : Obligations.AcceptedReceiveMakesTransition := fun _ _ hs h =>
  ⟨_, _, _, _, exec_receive_of_ok hs h⟩

end Sys2Proof.Machine

/-! ## The block's own transmission, received (43_receive.md R119; 70_reset_and_hazards.md R156) -/

namespace Sys2Proof.Machine

/-- The state after a TRANSMIT that passes its checks (R125), in the words of the statements. -/
def afterTransmit (c w : Bool) (s : State) : State :=
  { s with
    savedMode := refreshedMode s
    powerOn := decide (s.mode ≠ .off)
    evt := s.evt ++ [.tx s.cfg.carrierHz (serialize s.cfg (sentFrame s) (buildControlFrame s.cfg c w))]
    sf := frameOfDraw (Config.drawSf s.draws)
    cf := frameOfDraw (Config.drawCf s.draws)
    draws := s.draws + 1 }

/-- TRANSMIT from a ready state (R125). -/
theorem exec_transmit_of_ready {s : State} (h : isReady s) (c w : Bool) :
    exec (.transmit c w) s = .next (afterTransmit c w s) := by
  obtain ⟨hs, hfan, hswing, htemp, hhour, hmin⟩ := h
  have hw : isWritten s = true := (isWritten_iff s).2 ⟨hfan, hswing, htemp⟩
  rw [exec_transmit, runCommand_of_ready hs, if_pos hw, encodeBcd_of_le hhour, encodeBcd_of_le hmin]
  dsimp only
  rw [transmitChecked_eq, encodePowerToggle_eq]
  rfl

/-- SAVED_MODE as TRANSMIT refreshes it is not Off (10_state.md R20). -/
theorem refreshedMode_ne_off {s : State} (h : s.savedMode ≠ .off) : refreshedMode s ≠ .off := by
  unfold refreshedMode
  split_ifs with hm
  · exact h
  · exact hm

/-- The toggle a TRANSMIT carries is one that R91 allows. -/
theorem carriedToggle_cases (s : State) : carriedToggle s = 0#8 ∨ carriedToggle s = s.cfg.toggleBit :=
  ite_eq_or_eq _ _ _

/-- A mask of the low nibble, on byte 7 of a built State Frame, sees toggle, constant bit and swing bit (R56, R91). -/
theorem buildStateFrame_b7_and (c : Config) (m : Mode) (f : FanSpeed) (w : Swing) (t mb hb : Byte) {toggle mask : Byte}
    (htoggle : toggle &&& 0xF0#8 = 0#8) (hmask : mask &&& 0xF0#8 = 0#8) :
    (buildStateFrame c m f w t mb hb toggle).b7 &&& mask = (toggle ||| constBit ||| encodeFanSwing w) &&& mask := by
  rw [← buildStateFrame_b7_low c m f w t mb hb htoggle, BitVec.and_assoc, BitVec.and_comm 0x0F#8,
    mask_low_of_mask_high_eq_zero hmask]

section
variable {c : Config} (hc : admissible c = true) {toggle : Byte} (htoggle : toggle = 0#8 ∨ toggle = c.toggleBit)
include hc htoggle

/-- A toggle that R91 allows is in the low nibble. -/
theorem toggle_mask_high : toggle &&& 0xF0#8 = 0#8 := by
  rcases htoggle with rfl | rfl
  · decide
  · exact toggleBit_mask_high hc

/-- The toggle is read back from a built State Frame: no other field of byte 7 has its bit (R8, R91, R114). -/
theorem buildStateFrame_b7_toggle (m : Mode) (f : FanSpeed) (w : Swing) (t mb hb : Byte) :
    (buildStateFrame c m f w t mb hb toggle).b7 &&& c.toggleBit = toggle := by
  have hfields : (constBit ||| encodeFanSwing w) &&& c.toggleBit = 0#8 := by
    obtain ⟨-, -, -, hbit, -⟩ := admissible_parts hc
    rcases hbit with hbit | hbit <;> rw [hbit] <;> cases w <;> decide
  rw [buildStateFrame_b7_and c m f w t mb hb (toggle_mask_high hc htoggle) (toggleBit_mask_high hc), BitVec.or_assoc,
    BitVec.and_or_distrib_right, hfields, BitVec.or_zero]
  rcases htoggle with rfl | rfl
  · exact BitVec.zero_and
  · exact BitVec.and_self

/-- The swing mode is read back from a built State Frame (R78, R91). -/
theorem decodeFanSwing_buildStateFrame (m : Mode) (f : FanSpeed) (w : Swing) (t mb hb : Byte) :
    decodeFanSwing (buildStateFrame c m f w t mb hb toggle).b7 = w := by
  have hothers : (toggle ||| constBit) &&& swingBit = 0#8 := by
    obtain ⟨-, -, -, hbit, -⟩ := admissible_parts hc
    rcases htoggle with rfl | rfl
    · decide
    · rcases hbit with hbit | hbit <;> rw [hbit] <;> decide
  rw [decodeFanSwing, buildStateFrame_b7_and c m f w t mb hb (toggle_mask_high hc htoggle) (by decide),
    BitVec.and_or_distrib_right, hothers, BitVec.zero_or]
  exact decodeFanSwing_encodeFanSwing w

end

/-- A received frame of the block's own flips POWER_ON back to what it was before the TRANSMIT (R156). -/
theorem receivedPower_sentFrame {s : State} (hc : admissible s.cfg = true) :
    receivedPower s.cfg (sentFrame s) (decide (s.mode ≠ .off)) = s.powerOn := by
  rw [receivedPower, sentFrame, buildStateFrame_b7_toggle hc (carriedToggle_cases s), carriedToggle]
  by_cases h : decide (s.mode ≠ .off) = s.powerOn
  · rw [if_pos h, if_neg (not_not_intro rfl), h]
  · rw [if_neg h, if_pos (toggleBit_ne_zero hc), ← Bool.eq_not_of_ne (Ne.symm h)]

/-- `decode_temperature` of `encode_temperature` is TEMP clamped (R81 to R83). -/
theorem decodeBcd_encodeTemperature (c : Config) (draw temp : Byte) :
    (decodeBcd c draw (encodeTemperature temp)).toNat = clampTemp temp.toNat :=
  decodeBcd_bcdByte ((clampTemp_range temp.toNat).2.trans (by decide)) c draw

/-- Settles O43: TRANSMIT sends a valid State Frame, RECEIVE takes it back, and field by field it decodes to what it was
built from. -/
theorem ownTransmissionReceivedUndoesToggle : Obligations.OwnTransmissionReceivedUndoesToggle := by
  intro s c w hc hready hsaved
  have hstuck : isStuck s = false := hready.1
  have htoggle := carriedToggle_cases s
  have hvalid : stateChecksumOk (sentFrame s) = true := builtStateFrameValidates _ _ _ _ _ _ _ _ hc htoggle
  have hdecode := transmittedFrameIsReceived s.cfg (sentFrame s) (buildControlFrame s.cfg c w) hc rfl hvalid
  have hb1 : (sentFrame s).b1 = encodeFanSpeed s.cfg s.fan ++ encodeMode (refreshedMode s) :=
    low_or_high_eq_append _ _
  have hmode : decodeMode (sentFrame s).b1 = refreshedMode s := by
    rw [hb1, decodeMode_append_encodeMode (refreshedMode_ne_off hsaved)]
  have hfan : decodeFanSpeed s.cfg (sentFrame s).b1 = s.fan := by
    rw [hb1, decodeFanSpeed_append_encodeFanSpeed hc]
  have hpower := receivedPower_sentFrame hc
  refine ⟨_, _, _, exec_transmit_of_ready hready c w, rfl, exec_receive_of_ok hstuck hdecode, hpower, hmode, ?_, hfan,
    decodeFanSwing_buildStateFrame hc htoggle _ _ _ _ _ _, decodeBcd_encodeTemperature _ _ _, rfl, rfl⟩
  exact congrArg₂ (fun power mode => if power = true then mode else .off) hpower hmode

end Sys2Proof.Machine

/-! ## The state-writing commands (44_commands.md R121 to R124; 60_exceptions.md R133) -/

namespace Sys2Proof.Machine

/-- SETMODE with a legal operand (R121). -/
theorem exec_setmode_modeBits {s : State} (hs : isStuck s = false) (m : Mode) :
    exec (.setmode (modeBits m)) s = .next (setMode m s) := by
  rw [exec_setmode, runCommand_of_ready hs, modeOfBits_modeBits]

/-- SETFAN with a legal operand (R122). -/
theorem exec_setfan_fanBits {s : State} (hs : isStuck s = false) (f : FanSpeed) :
    exec (.setfan (fanBits f)) s = .next (writeFan f s) := by
  rw [exec_setfan, runCommand_of_ready hs, fanOfBits_fanBits]

/-- SETSWING (R123). -/
theorem exec_setswing_of_ready {s : State} (hs : isStuck s = false) (v : Bool) :
    exec (.setswing v) s = .next (writeSwing (swingOfBool v) s) := by
  rw [exec_setswing, runCommand_of_ready hs]

/-- SETTEMP (R124). -/
theorem exec_settemp_of_ready {s : State} (hs : isStuck s = false) (t : Byte) :
    exec (.settemp t) s = .next (writeTemp t s) := by
  rw [exec_settemp, runCommand_of_ready hs]

/-- An illegal operand is refused REF_ENCODING (R121, R122, R133). -/
theorem exec_of_illegal_operand {s : State} (hs : isStuck s = false) {i : Instr} (hi : i.wellFormed = false) :
    exec i s = .next (withRefusal .encoding s) := by
  rw [exec_of_not_wellFormed hi]
  exact runCommand_of_ready hs

/-- Settles O10: the operands 0 to 5 are the encodings of the six modes. -/
theorem setModeWritesMode : Obligations.SetModeWritesMode := fun _ hs =>
  have run := exec_setmode_modeBits hs
  ⟨run .off, run .cool, run .dry, run .heat, run .heatCool, run .fanOnly⟩

/-- Settles O11: the operands 0 to 4 are the encodings of the five fan speeds. -/
theorem setFanWritesFan : Obligations.SetFanWritesFan := fun _ hs =>
  have run := exec_setfan_fanBits hs
  ⟨run .auto, run .low, run .medium, run .high, run .quiet⟩

/-- Settles O12, operand by operand. -/
theorem setSwingWritesSwing : Obligations.SetSwingWritesSwing := fun _ hs =>
  ⟨exec_setswing_of_ready hs false, exec_setswing_of_ready hs true⟩

/-- Settles O13. -/
theorem setTempStoresOperand : Obligations.SetTempStoresOperand := fun _ t hs => exec_settemp_of_ready hs t

/-- Settles O5: an operand above the last encoding makes the instruction ill-formed. -/
theorem illegalOperandIsRefused : Obligations.IllegalOperandIsRefused := fun _ hs =>
  ⟨fun _ hm => exec_of_illegal_operand hs (decide_eq_false (Nat.not_le.2 hm)),
    fun _ hf => exec_of_illegal_operand hs (decide_eq_false (Nat.not_le.2 hf))⟩

end Sys2Proof.Machine

/-! ## The step and the instruction it runs (44_commands.md R120, R128; 20_memory.md R48) -/

namespace Sys2Proof.Machine

/-- A command word is run as the instruction it decodes to (R120). -/
theorem stepCommand_of_decode {w : CommandWord} {i : Instr} (h : decodeCommand w = .instr i) (s : State) :
    stepCommand w s = exec i s := by
  rw [stepCommand, h]

/-- A frame word is run as the instruction it decodes to (R128). -/
theorem stepFrame_of_decode {w : FrameWord} {i : Instr} (h : decodeFrame w = .instr i) (s : State) :
    stepFrame w s = exec i s := by
  rw [stepFrame, h]

/-- The receiver's presentation of a frame (R128). -/
theorem step_of_frame {s : State} {w : FrameWord} {rest : List Input} (h : s.inputs = .frame w :: rest) :
    step s = stepFrame w { s with inputs := rest } := by
  simp only [step, h]

/-- Decoding gives an instruction exactly where it does not reject. -/
theorem toOption_eq_some_iff (d : Decoded) (i : Instr) : d.toOption = some i ↔ d = .instr i := by
  cases d <;> simp [Decoded.toOption]

/-- A table word placed in front of the pending inputs is run, and taken off them again (R72, R120). -/
theorem step_withFetchWord {nbits w : Nat} {i : Instr} (h : decodeTableWord nbits w = some i) (s : State) :
    step (s.withFetchWord nbits w) = exec i s := by
  unfold decodeTableWord at h
  by_cases hn : nbits ≤ 16
  · rw [if_pos hn, toOption_eq_some_iff] at h
    have hinputs : (s.withFetchWord nbits w).inputs = .cmd (BitVec.ofNat 16 w) :: s.inputs := by
      simp only [State.withFetchWord, inputOfWord, if_pos hn]
    rw [step_of_cmd hinputs, stepCommand_of_decode h]
    rfl
  · rw [if_neg hn, toOption_eq_some_iff] at h
    have hinputs : (s.withFetchWord nbits w).inputs = .frame (BitVec.ofNat 64 w) :: s.inputs := by
      simp only [State.withFetchWord, inputOfWord, if_neg hn]
    rw [step_of_frame hinputs, stepFrame_of_decode h]
    rfl

/-- Settles O6, for a pending command word, a pending frame and a word placed from outside. -/
theorem stepRunsTheDecodedInstruction : Obligations.StepRunsTheDecodedInstruction := fun s _ _ =>
  ⟨fun _ hi hd => (step_of_cmd hi).trans (stepCommand_of_decode hd _),
    fun _ hi hd => (step_of_frame hi).trans (stepFrame_of_decode hd _), fun _ _ hd => step_withFetchWord hd s⟩

end Sys2Proof.Machine

/-! ## What TRANSMIT does (44_commands.md R125; 60_exceptions.md R132, R133, R135) -/

namespace Sys2Proof.Machine

/-- Settles O28 by evaluation, for either value of CLK_VALID. -/
theorem clockSample : Obligations.ClockSample := fun _ _ _ => ⟨rfl, rfl⟩

/-- TRANSMIT with a register unwritten (R132). -/
theorem exec_transmit_of_unwritten {s : State} (hs : isStuck s = false) (hw : ¬ isWritten s = true) (c w : Bool) :
    exec (.transmit c w) s = .next (recordFault s) := by
  rw [exec_transmit, runCommand_of_ready hs, if_neg hw]

/-- TRANSMIT with a sampled hour or minute that has no BCD encoding (R133, R135). -/
theorem exec_transmit_of_clock_above {s : State} (hs : isStuck s = false) (hw : isWritten s = true)
    (h : 99 < (sampleClock s).1.toNat ∨ 99 < (sampleClock s).2.toNat) (c w : Bool) :
    exec (.transmit c w) s = .next (recordRefusal .bcdRange s) := by
  rw [exec_transmit, runCommand_of_ready hs, if_pos hw]
  rcases h with hhour | hmin
  · rw [encodeBcd_of_gt hhour]
  · rw [encodeBcd_of_gt hmin]
    cases encodeBcd (sampleClock s).1.toNat <;> rfl

/-- Settles O30. -/
theorem clockAboveNinetyNineIsRefused : Obligations.ClockAboveNinetyNineIsRefused :=
  fun s c w hs hfan hswing htemp h =>
    exec_transmit_of_clock_above hs ((isWritten_iff s).2 ⟨hfan, hswing, htemp⟩) h c w

/-- Settles O31: the values of the scratch buffers and of the draw counter are those of `afterTransmit`. -/
theorem transmitSendsBothFrames : Obligations.TransmitSendsBothFrames := fun _ c w h =>
  ⟨_, _, _, exec_transmit_of_ready h c w⟩

/-- A TRANSMIT that sends nothing answers without a look at the LED requests: the block is stuck, a register is
unwritten or the clock is out of range. -/
theorem exec_transmit_of_not_ready {s : State} (h : ¬ isReady s) :
    ∃ t, t.evt = s.evt ∧ ∀ c w, exec (.transmit c w) s = .next t := by
  by_cases hs : isStuck s = true
  · exact ⟨s, rfl, fun c w => (exec_transmit c w s).trans (runCommand_of_stuck hs)⟩
  rw [Bool.not_eq_true] at hs
  by_cases hw : isWritten s = true
  · have hclock : 99 < (sampleClock s).1.toNat ∨ 99 < (sampleClock s).2.toNat := by
      obtain ⟨hfan, hswing, htemp⟩ := (isWritten_iff s).1 hw
      by_contra! hle
      exact h ⟨hs, hfan, hswing, htemp, hle⟩
    exact ⟨recordRefusal .bcdRange s, rfl, exec_transmit_of_clock_above hs hw hclock⟩
  · exact ⟨recordFault s, rfl, exec_transmit_of_unwritten hs hw⟩

/-- Settles O33: only from a ready state does TRANSMIT send, and there the Control Frame alone is built from the LED
requests. -/
theorem ledRequestsChangeOnlyTheControlFrame : Obligations.LedRequestsChangeOnlyTheControlFrame := by
  intro s t c w h
  by_cases hready : isReady s
  · rw [exec_transmit_of_ready hready] at h ⊢
    cases h
    exact .inr ⟨rfl, rfl⟩
  · obtain ⟨u, hevt, hexec⟩ := exec_transmit_of_not_ready hready
    rw [hexec] at h ⊢
    cases h
    exact .inl ⟨hevt, rfl⟩

end Sys2Proof.Machine

/-! ## A presented State Frame (44_commands.md R128; 43_receive.md R112 to R114) -/

namespace Sys2Proof.Machine

/-- A State Frame with a wrong checksum, at nominal durations, is CKFAIL (R112). -/
theorem receiveDecode_frameWaveform_of_bad_sum {c : Config} (hc : admissible c = true) {f : Frame}
    (hf : f.b0 = sfHeader) (hsum : stateChecksumOk f = false) : receiveDecode c (frameWaveform c f) = .ckFail := by
  obtain ⟨-, ckFail_iff, -⟩ := receiveDecodeAcceptsExactlyFrames c (frameWaveform c f)
  exact ckFail_iff.2 ⟨f, carriesFrame_frameWaveform hc hf, hsum⟩

/-- The frame of a State Frame's fields, each field pair written as one byte (R56, R57). -/
theorem stateFrameOf_eq (m f : Nibble) (n h b4 b5 t : Byte) (g k : Nibble) :
    stateFrameOf m f n h b4 b5 t g k =
      { b0 := sfHeader, b1 := f ++ m, b2 := n, b3 := h, b4 := b4, b5 := b5, b6 := t, b7 := k ++ g } := by
  rw [stateFrameOf, modeFanByte, low_or_high_eq_append, low_or_high_eq_append]

/-- Settles O45: the frame's own waveform carries it, so its checksum decides between OK and CKFAIL. -/
theorem presentedStateFrameIsReceived : Obligations.PresentedStateFrameIsReceived := by
  intro s m f n h b4 b5 t g k hs hc frame s'
  have hexec : exec (.stateFrame m f n h b4 b5 t g k) s = exec .receive s' := by
    rw [exec_stateFrame, stateFrameOf_eq]
    rfl
  rw [hexec]
  cases hsum : stateChecksumOk frame with
  | true => exact ⟨_, _, _, _, exec_receive_of_ok (s := s') hs (receiveDecode_frameWaveform hc rfl hsum)⟩
  | false =>
    exact ⟨0#8, _, _, _, exec_receive_of_ckFail (s := s') hs (receiveDecode_frameWaveform_of_bad_sum hc rfl hsum)⟩

end Sys2Proof.Machine

/-! ## The assembler (44_commands.md R127, R128) -/

namespace Sys2Proof.Machine

/-- A character of a mnemonic or an operand: no blank, no comma, no comment sign (R127). -/
def isWordChar (c : Char) : Bool := !isBlankChar c && c != ',' && c != ';'

/-- A non-empty text without blank, comma and comment sign. -/
def isWord (cs : List Char) : Prop := cs ≠ [] ∧ ∀ c ∈ cs, isWordChar c = true

/-- What a word's character is not. -/
theorem isWordChar_iff (c : Char) : isWordChar c = true ↔ isBlankChar c = false ∧ c ≠ ',' ∧ c ≠ ';' := by
  simp [isWordChar, and_assoc]

/-- A word has no blank. -/
theorem isWord.not_blank {cs : List Char} (h : isWord cs) : ∀ c ∈ cs, isBlankChar c = false :=
  fun c hc => ((isWordChar_iff c).1 (h.2 c hc)).1

/-- A word read backwards is a word. -/
theorem isWord.reverse {cs : List Char} (h : isWord cs) : isWord cs.reverse :=
  ⟨List.reverse_ne_nil_iff.2 h.1, fun c hc => h.2 c (List.mem_reverse.1 hc)⟩

/-- Dropping blanks stops at a word. -/
theorem dropWhile_blank_word_append {m : List Char} (hm : isWord m) (cs : List Char) :
    (m ++ cs).dropWhile isBlankChar = m ++ cs := by
  cases m with
  | nil => exact absurd rfl hm.1
  | cons c rest =>
    have hc : ¬ isBlankChar c = true := Bool.eq_false_iff.1 (hm.not_blank c List.mem_cons_self)
    exact List.dropWhile_cons_of_neg hc

/-- A text that begins and ends with a word has no blank to trim. -/
theorem trimBlanks_append {m x : List Char} (hm : isWord m) (hx : isWord x) (mid : List Char) :
    trimBlanks (m ++ (mid ++ x)) = m ++ (mid ++ x) := by
  have hback : ((m ++ (mid ++ x)).reverse.dropWhile isBlankChar).reverse = m ++ (mid ++ x) := by
    rw [List.reverse_append, List.reverse_append, List.append_assoc, dropWhile_blank_word_append hx.reverse]
    simp
  rw [trimBlanks, dropWhile_blank_word_append hm, hback]

/-- Trimming takes the blank in front of a word. -/
theorem trimBlanks_blank_cons {x : List Char} (hx : isWord x) : trimBlanks (' ' :: x) = x := by
  have hfront : (' ' :: x).dropWhile isBlankChar = x := by
    simpa [isBlankChar] using dropWhile_blank_word_append hx []
  have hback : x.reverse.dropWhile isBlankChar = x.reverse := by
    simpa using dropWhile_blank_word_append hx.reverse []
  rw [trimBlanks, hfront, hback, List.reverse_reverse]

/-- The operand text of a line with one operand (R127). -/
theorem operandTexts_word {x : List Char} (hx : isWord x) : operandTexts (' ' :: x) = [x] := by
  have hcomma : ',' ∉ ' ' :: x := by
    rw [List.mem_cons, not_or]
    exact ⟨by decide, fun h => ((isWordChar_iff _).1 (hx.2 _ h)).2.1 rfl⟩
  rw [operandTexts, trimBlanks_blank_cons hx, if_neg hx.1, List.splitOn_eq_singleton hcomma, List.map_singleton,
    trimBlanks_blank_cons hx]

/-- A mnemonic, a blank and one operand (R127). -/
theorem assembleLine_word_word {m x : List Char} (hm : isWord m) (hx : isWord x) :
    assembleLine (m ++ ' ' :: x) = assembleParts (m.map Char.toLower) [x] := by
  have hcomment : beforeComment (m ++ ' ' :: x) = m ++ ' ' :: x := by
    refine List.takeWhile_eq_self_iff.2 fun c hc => ?_
    have sign {cs : List Char} (h : isWord cs) (hc : c ∈ cs) : c ≠ ';' := ((isWordChar_iff c).1 (h.2 c hc)).2.2
    rw [bne_iff_ne]
    rcases List.mem_append.1 hc with hc | hc
    · exact sign hm hc
    · rcases List.mem_cons.1 hc with rfl | hc
      · decide
      · exact sign hx hc
  have htrim : trimBlanks (m ++ ' ' :: x) = m ++ ' ' :: x := trimBlanks_append hm hx [' ']
  have hblank : ∀ c ∈ m, (!isBlankChar c) = true := fun c hc => by rw [hm.not_blank c hc]; rfl
  have hmnemonic : (m ++ ' ' :: x).takeWhile (fun c => !isBlankChar c) = m := by
    rw [List.takeWhile_append_of_pos hblank]
    exact List.append_nil m
  have hrest : (m ++ ' ' :: x).dropWhile (fun c => !isBlankChar c) = ' ' :: x :=
    List.dropWhile_append_of_pos hblank
  unfold assembleLine
  dsimp only
  rw [hcomment, htrim, if_neg (by simp), hmnemonic, hrest, operandTexts_word hx]

/-! ### Numbers (44_commands.md R127) -/

/-- A digit character has its digit's value. -/
theorem digitValue_digitChar : ∀ d < 16, digitValue d.digitChar = some d := by decide

/-- Digits are read from the left, the value of the first ones being the accumulator of the rest. -/
theorem readDigits_append (base acc : Nat) (xs ys : List Char) :
    readDigits base acc (xs ++ ys) = (readDigits base acc xs).bind fun a => readDigits base a ys := by
  induction xs generalizing acc with
  | nil => rfl
  | cons c xs ih =>
    rw [List.cons_append, readDigits, readDigits]
    cases digitValue c with
    | none => rfl
    | some d =>
      dsimp only
      split_ifs
      · exact ih _
      · rfl

/-- One more digit. -/
theorem readDigits_digitChar {base d : Nat} (hb : base ≤ 16) (hd : d < base) (acc : Nat) :
    readDigits base acc [d.digitChar] = some (base * acc + d) := by
  simp [readDigits, digitValue_digitChar d (hd.trans_le hb), hd]

/-- The digits of a number are read as the number. -/
theorem readDigits_toDigits {base : Nat} (h1 : 1 < base) (hb : base ≤ 16) (n : Nat) :
    readDigits base 0 (Nat.toDigits base n) = some n := by
  induction n using Nat.strong_induction_on with
  | _ n ih =>
    by_cases hn : n < base
    · rw [Nat.toDigits_of_lt_base hn, readDigits_digitChar hb hn, Nat.mul_zero, Nat.zero_add]
    · rw [not_lt] at hn
      have hlt : n / base < n := Nat.div_lt_self (by omega) h1
      rw [Nat.toDigits_of_base_le h1 hn, readDigits_append, ih _ hlt, Option.bind_some,
        readDigits_digitChar hb (Nat.mod_lt n (by omega)), Nat.div_add_mod]

/-- A digit is no blank, no comma and no comment sign. -/
theorem isWordChar_of_digit {c : Char} {d : Nat} (h : digitValue c = some d) : isWordChar c = true := by
  by_contra hc
  have hsep : c = ' ' ∨ c = '\t' ∨ c = ',' ∨ c = ';' := by
    simpa [isWordChar, isBlankChar, or_assoc, imp_iff_not_or] using hc
  rcases hsep with rfl | rfl | rfl | rfl <;> cases h

/-- Only digits are read as digits. -/
theorem isWordChar_of_readDigits {base acc n : Nat} {cs : List Char} (h : readDigits base acc cs = some n) :
    ∀ c ∈ cs, isWordChar c = true := by
  induction cs generalizing acc with
  | nil => exact fun _ hc => absurd hc List.not_mem_nil
  | cons c cs ih =>
    rw [readDigits] at h
    split at h
    · next d hd =>
      split_ifs at h
      exact List.forall_mem_cons.2 ⟨isWordChar_of_digit hd, ih h⟩
    · cases h

/-- A decimal number is a word. -/
theorem isWord_toDigits_ten (n : Nat) : isWord (Nat.toDigits 10 n) :=
  ⟨Nat.toDigits_ne_nil, isWordChar_of_readDigits (readDigits_toDigits (by decide) (by decide) n)⟩

/-- A hexadecimal number is a word. -/
theorem isWord_hex (n : Nat) : isWord ('0' :: 'x' :: Nat.toDigits 16 n) :=
  ⟨List.cons_ne_nil _ _, List.forall_mem_cons.2 ⟨by decide, List.forall_mem_cons.2 ⟨by decide,
    isWordChar_of_readDigits (readDigits_toDigits (by decide) (by decide) n)⟩⟩⟩

/-- Decimal digits are read in base 10: they do not begin with `0x`. -/
theorem readNumber_toDigits_ten (n : Nat) : readNumber (Nat.toDigits 10 n) = some n := by
  have h : readDigits 10 0 (Nat.toDigits 10 n) = some n := readDigits_toDigits (by decide) (by decide) n
  unfold readNumber
  split
  · next hnil => exact absurd hnil Nat.toDigits_ne_nil
  · next hx => rw [hx] at h; cases h
  · exact h

/-- Digits after `0x` are read in base 16. -/
theorem readNumber_hex (n : Nat) : readNumber ('0' :: 'x' :: Nat.toDigits 16 n) = some n := by
  have h : readDigits 16 0 (Nat.toDigits 16 n) = some n := readDigits_toDigits (by decide) (by decide) n
  cases hd : Nat.toDigits 16 n with
  | nil => exact absurd hd Nat.toDigits_ne_nil
  | cons c cs => rw [← h, hd]; rfl

/-- A number below the bound is read. -/
theorem readBelow_of_lt {bound n : Nat} {cs : List Char} (h : readNumber cs = some n) (hn : n < bound) :
    readBelow bound cs = some n := by
  simp [readBelow, h, hn]

/-- Where no name is itself a number, a number below the number of names is read as its value. -/
theorem readNamed_toDigits_ten {names : List (List Char)} (hnames : ∀ x ∈ names, readNumber x = none) {n : Nat}
    (hn : n < names.length) : readNamed names (Nat.toDigits 10 n) = some n := by
  have hread := readNumber_toDigits_ten n
  have hmem : Nat.toDigits 10 n ∉ names := fun h => by
    rw [hnames _ h] at hread
    cases hread
  rw [readNamed, if_neg (mt List.idxOf_lt_length_iff.1 hmem), hread]
  exact if_pos hn

/-- A mnemonic whose row reads one operand, with an operand that it reads (R127). -/
theorem assembleLine_operand {m x : List Char} {read : List Char → Option Nat} {f : Nat → Instr} {n : Nat}
    (hm : isWord m) (hrow : ∀ x, assembleParts (m.map Char.toLower) [x] = withOperand (read x) f) (hx : isWord x)
    (hread : read x = some n) : assembleLine (m ++ ' ' :: x) = .instr (f n) := by
  rw [assembleLine_word_word hm hx, hrow, hread]
  rfl

/-- SETMODE with a number (R127). -/
theorem assembleLine_setmode_number {m : BitVec 3} (hm : m.toNat ≤ 5) :
    assembleLine ("SETMODE ".toList ++ Nat.toDigits 10 m.toNat) = .instr (.setmode m) := by
  have hword : isWord "SETMODE".toList := ⟨by decide, List.all_eq_true.1 rfl⟩
  have hread : readNamed modeNames (Nat.toDigits 10 m.toNat) = some m.toNat :=
    readNamed_toDigits_ten (by decide) (Nat.lt_succ_of_le hm)
  have hline := assembleLine_operand hword (f := fun n => .setmode (BitVec.ofNat 3 n)) (fun _ => rfl)
    (isWord_toDigits_ten _) hread
  rwa [BitVec.ofNat_toNat, BitVec.setWidth_eq] at hline

/-- SETFAN with a number (R127). -/
theorem assembleLine_setfan_number {f : BitVec 3} (hf : f.toNat ≤ 4) :
    assembleLine ("SETFAN ".toList ++ Nat.toDigits 10 f.toNat) = .instr (.setfan f) := by
  have hword : isWord "SETFAN".toList := ⟨by decide, List.all_eq_true.1 rfl⟩
  have hread : readNamed fanNames (Nat.toDigits 10 f.toNat) = some f.toNat :=
    readNamed_toDigits_ten (by decide) (Nat.lt_succ_of_le hf)
  have hline := assembleLine_operand hword (f := fun n => .setfan (BitVec.ofNat 3 n)) (fun _ => rfl)
    (isWord_toDigits_ten _) hread
  rwa [BitVec.ofNat_toNat, BitVec.setWidth_eq] at hline

/-- SETTEMP with a number in either base (R127). -/
theorem assembleLine_settemp {t : Byte} {x : List Char} (hx : isWord x) (hread : readNumber x = some t.toNat) :
    assembleLine ("SETTEMP".toList ++ ' ' :: x) = .instr (.settemp t) := by
  have hword : isWord "SETTEMP".toList := ⟨by decide, List.all_eq_true.1 rfl⟩
  have hline := assembleLine_operand hword (f := fun n => .settemp (BitVec.ofNat 8 n)) (fun _ => rfl) hx
    (readBelow_of_lt hread t.isLt)
  rwa [BitVec.ofNat_toNat, BitVec.setWidth_eq] at hline

/-- Settles O57: the lines are assembled and the instructions encoded by evaluation. -/
theorem pseudoInstructionsAssemble : Obligations.PseudoInstructionsAssemble := by
  unfold Obligations.PseudoInstructionsAssemble
  decide

/-- Settles O58: a line with a name or a bit is one fixed line, assembled by evaluation; a line with a number is read by
the lemmas on numbers. -/
theorem operandFormsAssemble : Obligations.OperandFormsAssemble := by
  refine ⟨?_, ?_, ?_, ?_, ?_, ?_, fun _ => assembleLine_setmode_number, ?_, ?_, ?_, ?_, ?_,
    fun _ => assembleLine_setfan_number, ?_, ?_, ?_, ?_,
    fun t => ⟨assembleLine_settemp (isWord_toDigits_ten _) (readNumber_toDigits_ten _),
      assembleLine_settemp (isWord_hex _) (readNumber_hex _)⟩, ?_, ?_, ?_, ?_, ?_⟩ <;> decide

end Sys2Proof.Machine

/-! ## A block that is stuck, and that every step answers (44_commands.md R120; 60_exceptions.md R129, R134) -/

namespace Sys2Proof.Machine

/-- Stuck means FAULT or REFUSED (R134). -/
theorem isStuck_iff (s : State) : isStuck s = true ↔ s.status.fault = true ∨ s.status.refused = true :=
  Bool.or_eq_true_iff

/-- Each of the six command words runs one command on the state as it stands (R120). -/
theorem exec_eq_runCommand {i : Instr} (hi : i.nbits = 16) : ∃ k, ∀ s, exec i s = runCommand k s := by
  cases i with
  | setmode m => exact ⟨_, exec_setmode m⟩
  | setfan f => exact ⟨_, exec_setfan f⟩
  | setswing v => exact ⟨_, exec_setswing v⟩
  | settemp t => exact ⟨_, exec_settemp t⟩
  | transmit c w => exact ⟨_, exec_transmit c w⟩
  | receive => exact ⟨_, exec_receive⟩
  | stateFrame | controlFrame => simp [Instr.nbits] at hi

/-- Any word written to CMD runs one command, a word that is no instruction the refusal (R71, R120). -/
theorem stepCommand_eq_runCommand (w : CommandWord) : ∃ k, ∀ s, stepCommand w s = runCommand k s := by
  cases hd : decodeCommand w with
  | instr i =>
    obtain ⟨k, hk⟩ := exec_eq_runCommand (decodeCommand_nbits hd)
    exact ⟨k, fun s => (stepCommand_of_decode hd s).trans (hk s)⟩
  | rejected e => exact ⟨recordRefusal .encoding, fun s => by rw [stepCommand, hd, refuseWord]⟩

/-- A stuck block runs no command (R134). -/
theorem exec_of_stuck {i : Instr} (hi : i.nbits = 16) {s : State} (hs : isStuck s = true) : exec i s = .next s := by
  obtain ⟨k, hk⟩ := exec_eq_runCommand hi
  rw [hk, runCommand_of_stuck hs]

/-- A stuck block does not look at the word written to CMD (R120). -/
theorem stepCommand_of_stuck (w : CommandWord) {s : State} (hs : isStuck s = true) : stepCommand w s = .next s := by
  obtain ⟨k, hk⟩ := stepCommand_eq_runCommand w
  rw [hk, runCommand_of_stuck hs]

/-- Settles O8: a presented frame is a RECEIVE of the block with RXW written, which is stuck as well. -/
theorem stuckBlockTakesNoStep : Obligations.StuckBlockTakesNoStep := by
  refine ⟨isStuck_iff, fun s hs => ?_⟩
  have run {i : Instr} (hi : i.nbits = 16) : exec i s = .next s := exec_of_stuck hi hs
  have presented (items : List Item) : exec .receive (setRxw items s) = .next (setRxw items s) := exec_of_stuck rfl hs
  exact ⟨fun _ => run rfl, fun _ => run rfl, fun _ => run rfl, fun _ => run rfl, fun _ _ => run rfl, run rfl,
    fun _ _ _ _ _ _ _ _ _ => presented _, fun _ _ => presented _,
    fun w _ hi => (step_of_cmd hi).trans (stepCommand_of_stuck w hs)⟩

/-- A command answers a next state, stuck or not. -/
theorem runCommand_answers (k : State → State) (s : State) : ∃ t, runCommand k s = .next t := by
  cases hs : isStuck s with
  | true => exact ⟨s, runCommand_of_stuck hs⟩
  | false => exact ⟨k s, runCommand_of_ready hs⟩

/-- The receive path answers a next state for any frame (R128). -/
theorem presentFrame_answers (f : Frame) (s : State) : ∃ t, presentFrame f s = .next t := by
  unfold presentFrame execReceive
  exact runCommand_answers _ _

/-- A word written to CMD is answered with a next state. -/
theorem stepCommand_answers (w : CommandWord) (s : State) : ∃ t, stepCommand w s = .next t := by
  obtain ⟨k, hk⟩ := stepCommand_eq_runCommand w
  exact hk s ▸ runCommand_answers k s

/-- Any frame word presented by the receiver is a frame on the receive path (R112, R128). -/
theorem stepFrame_eq_presentFrame (w : FrameWord) (s : State) : ∃ f, stepFrame w s = presentFrame f s := by
  unfold stepFrame
  split
  · next i hd =>
    unfold decodeFrame at hd
    dsimp only at hd
    split_ifs at hd <;> (cases hd; exact ⟨_, rfl⟩)
  · exact ⟨_, rfl⟩

/-- A frame word presented by the receiver is answered with a next state. -/
theorem stepFrame_answers (w : FrameWord) (s : State) : ∃ t, stepFrame w s = .next t := by
  obtain ⟨f, hf⟩ := stepFrame_eq_presentFrame w s
  exact hf ▸ presentFrame_answers f s

/-- The platform's assertion of reset (70_reset_and_hazards.md R148). -/
theorem step_of_reset {s : State} {rest : List Input} (h : s.inputs = .reset :: rest) :
    step s = .next (platformReset { s with inputs := rest }) := by
  simp only [step, h]

/-- Settles O9, input by input. -/
theorem stepAlwaysAnswers : Obligations.StepAlwaysAnswers := by
  intro s
  cases hi : s.inputs with
  | nil => exact ⟨_, step_of_no_input hi⟩
  | cons i rest =>
    cases i with
    | cmd w => exact step_of_cmd hi ▸ stepCommand_answers w _
    | frame w => exact step_of_frame hi ▸ stepFrame_answers w _
    | rxw items => exact ⟨_, step_of_rxw hi⟩
    | clock port => exact ⟨_, step_of_clock hi⟩
    | reset => exact ⟨_, step_of_reset hi⟩

end Sys2Proof.Machine

/-! ## The fault F_UNINIT (60_exceptions.md R132) -/

namespace Sys2Proof.Machine

/-- FAULT appears only where a register a frame is built from is unwritten (R132). -/
theorem Effect.unwritten_of_fault {s t : State} (h : Effect s t) (hs : s.status.fault = false)
    (ht : t.status.fault = true) : isWritten s = false := by
  cases h with
  | fault _ hw => exact hw
  | none | mode | fan | swing | temp | refusal => exact absurd (hs.symm.trans ht) Bool.false_ne_true
  | transmit =>
    rw [transmitChecked_eq] at ht
    exact absurd (hs.symm.trans ht) Bool.false_ne_true
  | receive =>
    rw [releaseScratch_status, applyRxOutcome_fault] at ht
    exact absurd (hs.symm.trans ht) Bool.false_ne_true

/-- A command whose effect leaves FAULT leaves it where the block is stuck too. -/
theorem runCommand_fault {k : State → State} {s t : State} (h : runCommand k s = .next t)
    (hk : (k s).status.fault = s.status.fault) : t.status.fault = s.status.fault := by
  obtain ⟨-, rfl⟩ | ⟨-, rfl⟩ := runCommand_cases h
  · rfl
  · exact hk

/-- RECEIVE leaves FAULT (43_receive.md R113). -/
theorem execReceive_fault {s t : State} (h : execReceive s = .next t) : t.status.fault = s.status.fault :=
  runCommand_fault h (applyRxOutcome_fault _ s)

/-- No instruction but TRANSMIT changes FAULT (R132). -/
theorem transmit_of_fault_ne {i : Instr} {s t : State} (h : exec i s = .next t)
    (hne : t.status.fault ≠ s.status.fault) : ∃ c w, i = .transmit c w := by
  cases i with
  | transmit c w => exact ⟨c, w, rfl⟩
  | setmode m =>
    rw [exec_setmode] at h
    exact absurd (runCommand_fault h (by split <;> rfl)) hne
  | setfan f =>
    rw [exec_setfan] at h
    exact absurd (runCommand_fault h (by split <;> rfl)) hne
  | setswing | settemp => exact absurd (runCommand_fault h rfl) hne
  | receive => exact absurd (execReceive_fault h) hne
  | stateFrame m f n hr b4 b5 temp g k =>
    exact absurd (execReceive_fault (s := setRxw (frameWaveform s.cfg (stateFrameOf m f n hr b4 b5 temp g k)) s) h) hne
  | controlFrame l k =>
    exact absurd (execReceive_fault (s := setRxw (frameWaveform s.cfg (controlFrameOf l k)) s) h) hne

/-- Settles O29: the fault is `recordFault`, and of the effects of an instruction only that one sets FAULT. -/
theorem uninitIsTheOnlyFault : Obligations.UninitIsTheOnlyFault := by
  refine ⟨fun s c w hs hw => ?_, fun i s t h hs ht => ⟨?_, ?_⟩⟩
  · have hunwritten : ¬ isWritten s = true := Bool.eq_false_iff.1 ((not_isWritten_iff s).2 hw)
    exact exec_transmit_of_unwritten hs hunwritten c w
  · exact transmit_of_fault_ne h (by simp [hs, ht])
  · rw [← not_isWritten_iff]
    obtain he | ⟨items, he⟩ := exec_effect h
    · exact he.unwritten_of_fault hs ht
    · exact he.unwritten_of_fault hs ht

end Sys2Proof.Machine

/-! ## A repeated TRANSMIT (44_commands.md R125; 70_reset_and_hazards.md R154) -/

namespace Sys2Proof.Machine

/-- Driven clock inputs are sampled as they stand, without a draw (10_state.md R33). -/
theorem sampleClock_congr_of_driven {s t : State} {valid : Bool} {hour minute : Byte}
    (hs : s.clk = .driven valid hour minute) (ht : t.clk = s.clk) : sampleClock t = sampleClock s := by
  simp only [sampleClock, ht, hs]

section
variable {s : State} (c w : Bool)

/-- With the clock inputs driven a TRANSMIT leaves the block ready for the next. -/
theorem isReady_afterTransmit (h : isReady s) {valid : Bool} {hour minute : Byte}
    (hclk : s.clk = .driven valid hour minute) : isReady (afterTransmit c w s) := by
  obtain ⟨hs, hfan, hswing, htemp, hhour, hmin⟩ := h
  have hsample : sampleClock (afterTransmit c w s) = sampleClock s := sampleClock_congr_of_driven hclk rfl
  rw [← hsample] at hhour hmin
  exact ⟨hs, hfan, hswing, htemp, hhour, hmin⟩

/-- After a TRANSMIT POWER_ON agrees with MODE, so that there is no toggle to carry (R84). -/
theorem carriedToggle_afterTransmit : carriedToggle (afterTransmit c w s) = 0#8 := if_pos rfl

/-- The State Frame of a TRANSMIT right after another has the toggle bit 0 (R154). -/
theorem sentFrame_afterTransmit_toggle (hc : admissible s.cfg = true) :
    (sentFrame (afterTransmit c w s)).b7 &&& s.cfg.toggleBit = 0#8 :=
  (buildStateFrame_b7_toggle hc (carriedToggle_cases (afterTransmit c w s)) _ _ _ _ _ _).trans
    (carriedToggle_afterTransmit c w)

end

/-- Settles O32: the second TRANSMIT starts ready too, and with POWER_ON as MODE wants it. -/
theorem repeatedTransmitCarriesNoToggle : Obligations.RepeatedTransmitCarriesNoToggle :=
  fun _ c w c' w' _ _ _ hc hready hclk =>
    ⟨_, _, _, exec_transmit_of_ready hready c w,
      exec_transmit_of_ready (isReady_afterTransmit c w hready hclk) c' w', rfl, rfl,
      sentFrame_afterTransmit_toggle c w hc⟩

end Sys2Proof.Machine

/-! ## The other space variant (42_serializer.md R97; 70_reset_and_hazards.md R158) -/

namespace Sys2Proof.Machine

/-- The parameters under the other space variant, all else equal (R97). -/
def withOtherVariant (c : Config) : Config := { c with spaceVariant := if c.spaceVariant = .a then .b else .a }

/-- The other variant sends a bit as this one sends its negation (R97, R98). -/
theorem dataItem_withOtherVariant (c : Config) (x : Bool) : dataItem (withOtherVariant c) x = dataItem c (!x) := by
  cases hv : c.spaceVariant <;> cases x <;> simp [dataItem, withOtherVariant, hv]

/-- A frame carried by a waveform of the other variant is inverted, bit by bit. -/
theorem frameBit_eq_not_of_carriesFrame {c : Config} (hc : admissible c = true) {f g : Frame}
    (h : carriesFrame c (frameWaveform (withOtherVariant c) f) g) {i j : Nat} (hi : i < 8) (hj : j < 8) :
    frameBit g i j = !frameBit f i j := by
  obtain ⟨-, -, -, -, hbits⟩ := h
  obtain ⟨it, hit, hread⟩ := hbits i j hi hj
  rw [frameWaveform_getElem?_bit _ f hi hj, dataItem_withOtherVariant, Option.some.injEq] at hit
  rw [← hit, nominalItemReadsAsItsBit c _ hc, Option.some.injEq] at hread
  exact hread.symm

/-- Settles O44: in byte 0 of what was sent and of what is carried, both 0x16, bit 0 would have to differ. -/
theorem wrongVariantIsNoMatch : Obligations.WrongVariantIsNoMatch := by
  rintro c c' f hc hf rfl
  obtain ⟨-, -, noMatch_iff⟩ := receiveDecodeAcceptsExactlyFrames c (frameWaveform (withOtherVariant c) f)
  refine noMatch_iff.2 fun g hg => ?_
  have hinverted : frameBit g 0 0 = !frameBit f 0 0 := frameBit_eq_not_of_carriesFrame hc hg (by decide) (by decide)
  obtain ⟨-, -, -, hg0, -⟩ := hg
  have hsame : frameBit g 0 0 = frameBit f 0 0 :=
    calc frameBit g 0 0 = g.b0.getLsbD 0 := frameBit_eq (f := g) (i := 0) (by simp) (by decide)
      _ = f.b0.getLsbD 0 := by rw [hg0, hf]
      _ = frameBit f 0 0 := (frameBit_eq (f := f) (i := 0) (by simp) (by decide)).symm
  exact Bool.self_ne_not _ (hsame.symm.trans hinverted)

end Sys2Proof.Machine

/-! ## Reset and the marks it alone clears (60_exceptions.md R131 to R134; 70_reset_and_hazards.md R148, R149) -/

namespace Sys2Proof.Machine

/-- STATUS as reset leaves it reads as 0 (R148). -/
theorem statusWord_afterReset :
    statusWord { lastRx := .noReceive, fault := false, refused := false, reason := .noReason } = 0#8 := by
  decide

/-- Reset leaves the values of R148, whatever its draws are. -/
theorem isResetState_afterReset (cfg : Config) (clk : ClockPort) (inputs : List Input) (draws : Nat) :
    isResetState (State.afterReset cfg clk inputs draws) :=
  ⟨rfl, modeOfDraw_ne_off _, rfl, rfl, rfl, rfl, statusWord_afterReset, rfl, rfl⟩

/-- From `s` to `t` FAULT and REFUSED are not cleared and a recorded REASON stays. -/
structure KeepsMarks (s t : State) : Prop where
  fault : s.status.fault = true → t.status.fault = true
  refused : s.status.refused = true → t.status.refused = true
  reason : s.status.reason ≠ .noReason → t.status.reason = s.status.reason

/-- Where STATUS changes at most in LAST_RX, the marks are kept. -/
theorem KeepsMarks.of_eq {s t : State} (hf : t.status.fault = s.status.fault)
    (hr : t.status.refused = s.status.refused) (hreason : t.status.reason = s.status.reason) : KeepsMarks s t :=
  ⟨hf.trans, hr.trans, fun _ => hreason⟩

/-- A reason that is recorded is the one that stays (R131). -/
theorem firstReason_of_recorded {old : Reason} (h : old ≠ .noReason) (r : Reason) : firstReason old r = old :=
  if_neg h

/-- No instruction clears a mark: recording one more sets it, and RECEIVE writes LAST_RX alone. -/
theorem Effect.keepsMarks {s t : State} (h : Effect s t) : KeepsMarks s t := by
  cases h with
  | none | mode | fan | swing | temp => exact .of_eq rfl rfl rfl
  | refusal => exact ⟨id, fun _ => rfl, fun hr => firstReason_of_recorded hr _⟩
  | fault => exact ⟨fun _ => rfl, id, fun hr => firstReason_of_recorded hr _⟩
  | transmit =>
    rw [transmitChecked_eq]
    exact .of_eq rfl rfl rfl
  | receive => exact .of_eq (applyRxOutcome_fault _ s) (applyRxOutcome_refused _ s) (applyRxOutcome_reason _ s)

/-- No step but a reset clears a mark: the agents do not write STATUS. -/
theorem keepsMarks_of_step {s t : State} (h : step s = .next t) (hr : s.inputs.head? ≠ some .reset) :
    KeepsMarks s t := by
  obtain ⟨rest, hi, -⟩ | ⟨-, items, port, rest, rfl | he⟩ := step_cases h
  · exact absurd (by simp [hi]) hr
  · exact .of_eq rfl rfl rfl
  · obtain ⟨hfault, hrefused, hreason⟩ := he.keepsMarks
    exact ⟨hfault, hrefused, hreason⟩

/-- Settles O49: reset at the start and reset asserted later are `State.afterReset`, and every other step keeps the
marks. -/
theorem resetLeavesTheResetState : Obligations.ResetLeavesTheResetState := by
  refine ⟨isResetState_afterReset _ _ _ _, fun s rest hi => ?_, fun s t h hr => ?_⟩
  · exact ⟨_, step_of_reset hi, isResetState_afterReset _ _ _ _, rfl, rfl⟩
  · obtain ⟨hfault, hrefused, hreason⟩ := keepsMarks_of_step h hr
    exact ⟨hfault, hrefused, hreason⟩

end Sys2Proof.Machine

/-! ## The boot sequence (70_reset_and_hazards.md R151) -/

namespace Sys2Proof.Machine

/-- Where the block is not stuck, the instruction has the effect `k`, and the block is not stuck after it. -/
def Writes (i : Instr) (k : State → State) : Prop :=
  ∀ s, isStuck s = false → exec i s = .next (k s) ∧ isStuck (k s) = false

/-- SETFAN with a legal operand (R122). -/
theorem writes_setfan (f : FanSpeed) : Writes (.setfan (fanBits f)) (writeFan f) :=
  fun _ hs => ⟨exec_setfan_fanBits hs f, hs⟩

/-- SETSWING (R123). -/
theorem writes_setswing (v : Bool) : Writes (.setswing v) (writeSwing (swingOfBool v)) :=
  fun _ hs => ⟨exec_setswing_of_ready hs v, hs⟩

/-- SETTEMP (R124). -/
theorem writes_settemp (t : Byte) : Writes (.settemp t) (writeTemp t) :=
  fun _ hs => ⟨exec_settemp_of_ready hs t, hs⟩

/-- Three writes run one after the other. -/
theorem execAll_three {i₁ i₂ i₃ : Instr} {k₁ k₂ k₃ : State → State} (h₁ : Writes i₁ k₁) (h₂ : Writes i₂ k₂)
    (h₃ : Writes i₃ k₃) {s : State} (hs : isStuck s = false) : execAll [i₁, i₂, i₃] s = some (k₃ (k₂ (k₁ s))) := by
  obtain ⟨e₁, hs₁⟩ := h₁ s hs
  obtain ⟨e₂, hs₂⟩ := h₂ _ hs₁
  obtain ⟨e₃, -⟩ := h₃ _ hs₂
  simp only [execAll, e₁, e₂, e₃]

/-- FAN, SWING and TEMP written. -/
def booted (f : FanSpeed) (v : Bool) (t : Byte) (s : State) : State :=
  writeTemp t (writeSwing (swingOfBool v) (writeFan f s))

/-- The three writes touch different registers, so that every order of them leaves the same state. -/
theorem execAll_boot {f : FanSpeed} {v : Bool} {t : Byte} {is : List Instr} {s : State} (hs : isStuck s = false)
    (h : is.Perm [.setfan (fanBits f), .setswing v, .settemp t]) : execAll is s = some (booted f v t s) := by
  have hf := writes_setfan f
  have hv := writes_setswing v
  have ht := writes_settemp t
  rw [← List.mem_permutations'] at h
  simp only [List.permutations', List.permutations'Aux, List.flatMap_cons, List.flatMap_nil, List.map_cons,
    List.map_nil, List.cons_append, List.nil_append, List.mem_cons, List.not_mem_nil, or_false] at h
  obtain rfl | rfl | rfl | rfl | rfl | rfl := h
  · exact execAll_three hf hv ht hs
  · exact execAll_three hv hf ht hs
  · exact execAll_three hv ht hf hs
  · exact execAll_three hf ht hv hs
  · exact execAll_three ht hf hv hs
  · exact execAll_three ht hv hf hs

/-- `fanBits` inverts `fanOfBits` on the legal operands (10_state.md R21). -/
theorem map_fanBits_fanOfBits : ∀ b : BitVec 3, (fanOfBits b).map fanBits = if b.toNat ≤ 4 then some b else none := by
  decide

/-- A legal operand of SETFAN is the encoding of a fan speed (R21). -/
theorem exists_fanBits_eq {b : BitVec 3} (hb : b.toNat ≤ 4) : ∃ f, fanBits f = b := by
  have hmap := map_fanBits_fanOfBits b
  rw [if_pos hb, Option.map_eq_some_iff] at hmap
  obtain ⟨f, -, hf⟩ := hmap
  exact ⟨f, hf⟩

/-- With FAN, SWING and TEMP written a TRANSMIT answers without a fault (R132). -/
theorem exec_transmit_no_fault {s : State} (hs : isStuck s = false) (hw : isWritten s = true) (c w : Bool) :
    ∃ t, exec (.transmit c w) s = .next t ∧ t.status.fault = false := by
  obtain ⟨t, ht⟩ : ∃ t, exec (.transmit c w) s = .next t := exec_transmit c w s ▸ runCommand_answers _ s
  refine ⟨t, ht, Bool.eq_false_iff.2 fun hfault => ?_⟩
  have hunwritten := (execTransmit_effect ht).unwritten_of_fault (not_stuck hs).1 hfault
  exact Bool.false_ne_true (hunwritten.symm.trans hw)

/-- Settles O50: in any order the three commands leave `booted`, with every written bit set. -/
theorem bootSequenceMakesTransmitReady : Obligations.BootSequenceMakesTransmitReady := by
  intro s f v t is hs hf his
  obtain ⟨fan, rfl⟩ := exists_fanBits_eq hf
  exact ⟨booted fan v t s, execAll_boot hs his, rfl, rfl, (fanBits_eq_fanCode fan).symm,
    exec_transmit_no_fault hs rfl⟩

end Sys2Proof.Machine

/-! ## The parameters reset takes (00_scope.md R6 to R8) -/

namespace Sys2Proof.Machine

/-- The default data-space windows are disjoint (R7); no OPEN parameter has a part in them. -/
theorem defaultSpaces_disjoint : spacesDisjoint (configWith 0#32 0#32 0#8 0#8) = true := by decide

/-- The default fan codes are distinct (R8); no OPEN parameter has a part in them. -/
theorem defaultFanCodes_nodup : (fanCodes (configWith 0#32 0#32 0#8 0#8)).Nodup := by decide

/-- A decoy item of no duration does not match header-1 (R7). -/
theorem zeroDecoy_not_header : decoyMatchesHeader (configWith 0#32 0#32 0#8 0#8) = false := by decide

/-- The defaults are admissible as soon as the OPEN parameters meet their constraints: every default meets its own. -/
theorem admissible_configWith_iff (dm ds : Duration) (mc mw : Byte) :
    admissible (configWith dm ds mc mw) = true ↔
      decoyMatchesHeader (configWith dm ds mc mw) = false ∧
      singleBit mc = true ∧ singleBit mw = true ∧ mc ≠ mw := by
  have htol : (configWith dm ds mc mw).tolPct ≤ 99 := (by decide : 25 ≤ 99)
  have hspaces : spacesDisjoint (configWith dm ds mc mw) = true := defaultSpaces_disjoint
  have hcodes : (fanCodes (configWith dm ds mc mw)).Nodup := defaultFanCodes_nodup
  rw [admissible_iff, Bool.not_eq_true]
  exact ⟨fun ⟨_, _, hd, _, _, hm⟩ => ⟨hd, hm⟩, fun ⟨hd, hm⟩ => ⟨htol, hspaces, hd, .inr rfl, hcodes, hm⟩⟩

/-- The admitted decoy does not match header-1, whatever the free values are (R7). -/
theorem admitDecoy_not_header (mark space : Duration) (mc mw : Byte) :
    decoyMatchesHeader (configWith (admitDecoy mark space).1 (admitDecoy mark space).2 mc mw) = false := by
  unfold admitDecoy
  split
  · exact zeroDecoy_not_header
  · next h => exact Bool.eq_false_iff.2 h

/-- The LED masks of the default parameters are two distinct single bits, whatever the free values are (R8). -/
theorem ledMasks_distinct : ∀ (ceil : Fin 8) (wallStep : Fin 7),
    singleBit (ledMask ceil) = true ∧ singleBit (ledMask ((ceil + 1 + wallStep) % 8)) = true ∧
      ledMask ceil ≠ ledMask ((ceil + 1 + wallStep) % 8) := by
  decide

/-- Settles O55: `State.reset` is a reset like any other, and its parameters are the defaults with OPEN ones that meet
their constraints. -/
theorem invariantHoldsAtReset : Obligations.InvariantHoldsAtReset :=
  ⟨stateInv_afterReset _ _ _ _,
    (admissible_configWith_iff _ _ _ _).2 ⟨admitDecoy_not_header _ _ _ _, ledMasks_distinct _ _⟩⟩

end Sys2Proof.Machine
